-- ==== Sys2Proof/Word.lean ====
section
/-! DEFINITION. The two word types of the core (R6, R8): bytes and 16-bit words. -/

namespace Sys2Proof

/-- A byte: the content of a register cell, of a memory location, and the unit of a bus transaction (R6). -/
abbrev Byte := BitVec 8

/-- A 16-bit word: an address, `sp`, `pc` or a register pair (R6). -/
abbrev Word := BitVec 16

end Sys2Proof
end

