-- ==== Sys2Proof/Machine/Bits.lean ====
section
/-! DEFINITION. Bit fields, extension and byte order (R8, R9, R64). -/

namespace Sys2Proof.Machine

/-- `high(w) = w[15:8]` (R8). -/
def high (w : Word) : Byte := w.extractLsb' 8 8

/-- `low(w) = w[7:0]` (R8). -/
def low (w : Word) : Byte := w.extractLsb' 0 8

/-- `{hi, lo}`: the first byte is the high one (R8). -/
def joinBytes (hi lo : Byte) : Word := (hi ++ lo : BitVec 16)

/-- `sext_16` (R9). -/
def sext16 (v : Byte) : Word := v.signExtend 16

/-- `zext_16` (R9). -/
def zext16 (v : Byte) : Word := v.setWidth 16

/-- The byte with bit 0 equal to `x` and the others 0. -/
def lsbIf (x : Bool) : Byte := if x then 0x01 else 0x00

/-- The byte with bit 7 equal to `x` and the others 0. -/
def msbIf (x : Bool) : Byte := if x then 0x80 else 0x00

/-- `1 << n` as a byte: the mask of bit `n`. -/
def bitMask (n : Nat) : Byte := (0x01 : Byte) <<< n

end Sys2Proof.Machine
end

