-- ==== Sys2Proof/Config.lean ====
section
/-! DEFINITION. What is fixed for one machine, and the values the spec leaves open (R7, `92_eei_decisions.md` part 2). -/

namespace Sys2Proof

/-- The execution mode of R35. -/
inductive Mode where
  | running
  | halted
  | stopped
  deriving DecidableEq, Repr

namespace Config

/-- What a byte of memory holds as long as nothing has placed or written one there: a free value for each address. R383
gives memory no contents at reset and forbids assuming any, so it has no body (log entry 2). -/
opaque unlistedByte : Word → Byte

/-- The parameter `EI_DELAY` of R7, at the spec's default: `EI` takes effect after the next instruction
(R129, R294). DESIGN CHOICE of the spec, followed (log entry 5). -/
def eiDelay : Bool := true

/-- The free input `stop_wake` of R122: entry `k` is what the core finds the `k`-th time it reads the input.
It has no body, so nothing may be assumed about when, or whether, the platform wakes the core (log entry 4). -/
opaque stopWake : Nat → Bool

/-- The reset state as one configuration record, as R44 asks. -/
structure ResetRecord where
  a : Byte
  f : Byte
  b : Byte
  c : Byte
  d : Byte
  e : Byte
  h : Byte
  l : Byte
  sp : Word
  pc : Word
  ime : Bool
  mode : Mode
  imePending : Bool
  locked : Bool
  mCycles : Nat
  tStates : Nat
  /-- The open parameter `RESET_IE` (R44). -/
  ie : Byte
  /-- The open parameter `RESET_IF` (R44). -/
  ifl : Byte
  /-- The memory image the platform has placed on the bus before the first step. What it does not place is a free
  value (R381, R383). -/
  image : List (Word × Byte)
  deriving DecidableEq, Repr

/-- The power-on state of R44. `ie` and `ifl` are open in the spec and stand here at 0 (DESIGN CHOICE, unsafe, log entry 20).
`image` is empty: every other byte is a free value (log entry 2). -/
def powerOn : ResetRecord where
  a := 0x01
  f := 0x80
  b := 0x00
  c := 0x13
  d := 0x00
  e := 0xD8
  h := 0x01
  l := 0x4D
  sp := 0xFFFE
  pc := 0x0100
  ime := true
  mode := .running
  imePending := false
  locked := false
  mCycles := 0
  tStates := 0
  ie := 0x00
  ifl := 0x00
  image := []

end Config
end Sys2Proof
end

