-- ==== Sys2Proof/Machine/Memory.lean ====
section
/-! DEFINITION. The memory behind the bus: one flat space of 65,536 bytes (R42, R61), held as a sorted list of the
bytes that have been placed or written. The flat array is the simplest bus `93` U10 admits (log entry 1). -/

namespace Sys2Proof.Machine

/-- The listed bytes, by address. -/
abbrev Memory := List Host.Cell

/-- The byte listed for `a`, if one is. -/
def Memory.lookup (m : Memory) (a : Word) : Option Byte :=
  match m with
  | [] => none
  | (k, v) :: rest => if k = a.toNat then some v else Memory.lookup rest a

/-- The byte at `a`. Total, as R61 asks: where none is listed it is the free value of that address (R383, log entry 2). -/
def Memory.read (m : Memory) (a : Word) : Byte := (Memory.lookup m a).getD (Config.unlistedByte a)

/-- `m` without an entry for `a`. -/
def Memory.erase (m : Memory) (a : Nat) : Memory := m.filter fun cell => cell.1 != a

/-- `m` with an entry for `a` at its place in the order. -/
def Memory.insert (m : Memory) (a : Nat) (v : Byte) : Memory :=
  match m with
  | [] => [(a, v)]
  | (k, w) :: rest => if a < k then (a, v) :: (k, w) :: rest else (k, w) :: Memory.insert rest a v

/-- `m` with the byte at `a` equal to `v`. Total: no write fails (R61). A byte once written stays listed, whatever its
value: no value is known to be the free one. -/
def Memory.write (m : Memory) (a : Word) (v : Byte) : Memory :=
  Memory.insert (Memory.erase m a.toNat) a.toNat v

/-- Several byte writes, the first of the list first. -/
def Memory.writeAll (m : Memory) (cells : List (Word × Byte)) : Memory :=
  cells.foldl (fun acc cell => Memory.write acc cell.1 cell.2) m

/-- The canonical form: addresses strictly rising, all inside the address space (R42). No entry is what an unlisted address
is listed as, since that is nothing at all. -/
abbrev Memory.wf (m : Memory) : Prop :=
  m.Pairwise (fun x y => x.1 < y.1) ∧ ∀ cell ∈ m, cell.1 < 65536

end Sys2Proof.Machine
end

