-- ==== Sys2Proof/Machine/State.lean ====
section
/-! DEFINITION. The state of the core and of the memory behind its bus (`10_state.md`), the reasons a step can stop, and
the state after reset. -/

namespace Sys2Proof.Machine

/-- One bus transaction: it moves one byte (R60, R62). -/
inductive BusOp where
  | read (addr : Word) (value : Byte)
  | write (addr : Word) (value : Byte)
  deriving DecidableEq, Repr

/-- What a step that did not fault was (R137). -/
inductive StepOutcome where
  /-- One idle m-cycle (R121, R122). -/
  | idle
  /-- The dispatch of interrupt `n` (R124). -/
  | dispatched (n : Nat)
  /-- One instruction (R126). -/
  | executed
  deriving DecidableEq, Repr

/-- The machine. `env` and `stopWakeReads` are the model's own (log entries 3 and 4), and `bus` and
`outcome` are outputs of a step (log entry 8). `INVENTORY.md`, under State, lists every field with its rule and its reset value. -/
structure State where
  /-- `A`, the accumulator (R20, R22). -/
  a : Byte
  /-- `F`, the flags `Z N H C` in bits 7..4 (R22, R23). -/
  f : Byte
  /-- `B` (R20). -/
  b : Byte
  /-- `C` (R20). -/
  c : Byte
  /-- `D` (R20). -/
  d : Byte
  /-- `E` (R20). -/
  e : Byte
  /-- `H` (R20). -/
  h : Byte
  /-- `L` (R20). -/
  l : Byte
  /-- The stack pointer (R26). -/
  sp : Word
  /-- The program counter (R27, R28). -/
  pc : Word
  /-- The interrupt master enable (R33). -/
  ime : Bool
  /-- The pending enable of `EI` (R34). -/
  imePending : Bool
  /-- `Running`, `Halted` or `Stopped` (R35). -/
  mode : Mode
  /-- The latch set by IllegalOpcode (R36). -/
  locked : Bool
  /-- The m-cycle counter, unbounded (R37). -/
  mCycles : Nat
  /-- The t-state counter, unbounded (R37). -/
  tStates : Nat
  /-- Memory, `IE` at `0xFFFF` and `IF` at `0xFF0F` among it (R38, R39, R42). -/
  mem : Memory
  /-- The bus transactions of the step so far, the oldest first (R139). -/
  bus : List BusOp
  /-- What the last step was, once it has ended (R137). -/
  outcome : Option StepOutcome
  /-- What the other agents will write: one entry for each coming step, made before it (R72). -/
  env : List (List (Word × Byte))
  /-- How many times `stop_wake` has been read (R122). -/
  stopWakeReads : Nat
  deriving DecidableEq, Repr

/-- Why the machine stops. -/
inductive Fault where
  /-- Raised by the eleven illegal first bytes (R341): the byte, whether it followed `0xCB` (always false), the
  address it was fetched from, and the state the fault leaves (`locked` set, `pc` one past the byte). Safe: it is
  the outcome the spec gives. -/
  | illegalOpcode (op : Byte) (cb : Bool) (pcFetch : Word) (after : State)
  /-- Raised by a step of a locked core, which the spec gives no step (R137, R342). Safe: a stuck state. -/
  | coreLocked
  deriving DecidableEq, Repr

/-- Why an instruction has no meaning. -/
inductive Refusal where
  /-- Raised by an arm of `exec` whose instruction has no meaning yet. Safe. No arm raises it. -/
  | notModelled (mnemonic : String)
  deriving DecidableEq, Repr

/-- The outcome of an instruction or of a step. -/
abbrev Result := Host.Outcome State Fault Refusal

/-- The state a reset record describes: its register values, and its image, `IE` and `IF` placed in memory (R44). -/
def State.ofReset (r : Config.ResetRecord) : State where
  a := r.a
  f := r.f
  b := r.b
  c := r.c
  d := r.d
  e := r.e
  h := r.h
  l := r.l
  sp := r.sp
  pc := r.pc
  ime := r.ime
  imePending := r.imePending
  mode := r.mode
  locked := r.locked
  mCycles := r.mCycles
  tStates := r.tStates
  mem := Memory.writeAll [] (r.image ++ [(0xFFFF, r.ie), (0xFF0F, r.ifl)])
  bus := []
  outcome := none
  env := []
  stopWakeReads := 0

/-- The machine right after reset (R44, R380). -/
def State.reset : State := State.ofReset Config.powerOn

end Sys2Proof.Machine
end

