-- ==== Sys2Proof/Machine/Ops.lean ====
section
/-! DEFINITION. The operations every meaning is built from: bus transactions, the counters, immediates, the stack,
interrupt dispatch and the return from it, and the one fault (`20_memory.md`, `40_execution_cycle.md`,
`60_exceptions.md`). -/

namespace Sys2Proof.Machine

/-- The model's read of one byte: what the bus would answer at `addr`, with no transaction. -/
def State.readByte (s : State) (addr : Word) : Byte := Memory.read s.mem addr

/-- `MemRead(addr, 1)`: one read transaction (R62). -/
def memRead (addr : Word) (s : State) : Byte × State :=
  (s.readByte addr, { s with bus := s.bus ++ [.read addr (s.readByte addr)] })

/-- `MemWrite(addr, 1, v)`: one write transaction (R62). -/
def memWrite (addr : Word) (v : Byte) (s : State) : State :=
  { s with mem := Memory.write s.mem addr v, bus := s.bus ++ [.write addr v] }

/-- `MemRead(addr, 2)`: the low byte first (R65). -/
def memRead16 (addr : Word) (s : State) : Word × State :=
  let (lo, s1) := memRead addr s
  let (hi, s2) := memRead (addr + 1) s1
  (joinBytes hi lo, s2)

/-- `MemWrite(addr, 2, v)`: the low byte first (R65). -/
def memWrite16 (addr : Word) (v : Word) (s : State) : State :=
  memWrite (addr + 1) (high v) (memWrite addr (low v) s)

/-- The address of `IE` (R38). -/
def ieAddr : Word := 0xFFFF

/-- The address of `IF` (R39). -/
def ifAddr : Word := 0xFF0F

/-- `IoRead(IE)` (R66). -/
def ioReadIE (s : State) : Byte × State := memRead ieAddr s

/-- `IoRead(IF)` (R66). -/
def ioReadIF (s : State) : Byte × State := memRead ifAddr s

/-- `IoWrite(IF, v)` (R66). -/
def ioWriteIF (v : Byte) (s : State) : State := memWrite ifAddr v s

/-- `tick(n)`: 1 m-cycle is 4 t-states (R128). -/
def tick (n : Nat) (s : State) : State :=
  { s with mCycles := s.mCycles + n, tStates := s.tStates + 4 * n }

/-- `imm8()`: the byte at `pc`, and `pc` past it (R130). -/
def imm8 (s : State) : Byte × State :=
  let (v, s1) := memRead s.pc s
  (v, { s1 with pc := s1.pc + 1 })

/-- `imm16()`: the low byte first (R131). -/
def imm16 (s : State) : Word × State :=
  let (lo, s1) := imm8 s
  let (hi, s2) := imm8 s1
  (joinBytes hi lo, s2)

/-- `push16(w)`: the high byte to `sp - 1`, then the low byte to `sp - 2` (R134). -/
def push16 (w : Word) (s : State) : State :=
  let s1 := memWrite (s.sp - 1) (high w) s
  let s2 := memWrite (s.sp - 2) (low w) s1
  { s2 with sp := s.sp - 2 }

/-- `pop16()`: the low byte from `sp`, then the high byte from `sp + 1` (R135). -/
def pop16 (s : State) : Word × State :=
  let (w, s1) := memRead16 s.sp s
  (w, { s1 with sp := s.sp + 2 })

/-- `pc <- target` (R30). -/
def jumpTo (target : Word) (s : State) : State := { s with pc := target }

/-- The pending set `IE & IF & 0x1F` of two sampled bytes (R40, R346). -/
def pendingSet (ie ifl : Byte) : Byte := ie &&& ifl &&& 0x1F

/-- The lowest-numbered pending bit: VBlank first, Joypad last (R348). -/
def lowestPending (pend : Byte) : Nat :=
  if pend.getLsbD 0 then 0
  else if pend.getLsbD 1 then 1
  else if pend.getLsbD 2 then 2
  else if pend.getLsbD 3 then 3
  else 4

/-- The fixed vector of source `n`: `0x0040 + 8n` (R344, R351). -/
def interruptVector (n : Nat) : Word := 0x0040 + 8 * BitVec.ofNat 16 n

/-- Taking an interrupt, the one exception the core delivers to a program: the sequence of R350 for source `n`, where
`ifl` is `IF` as sampled at the start of the step. -/
def dispatchInterrupt (n : Nat) (ifl : Byte) (s : State) : State :=
  let s1 := ioWriteIF (ifl &&& ~~~(bitMask n)) s
  let s2 := { s1 with ime := false, imePending := false }
  let s3 := push16 s2.pc s2
  tick 5 (jumpTo (interruptVector n) s3)

/-- The return from a subroutine: `pc <- pop16()` (R273). -/
def returnFromCall (s : State) : State :=
  let (target, s1) := pop16 s
  jumpTo target s1

/-- The return from an interrupt handler: as the return from a subroutine, then `ime <- true` at once, with
`ime_pending` left as it is (R275, R354). -/
def returnFromInterrupt (s : State) : State := { returnFromCall s with ime := true }

/-- The core's one fault, raised when `op` has just been fetched from `pc - 1` (R341): the latch is set, nothing else
changes, no cycle is charged, and nothing is delivered to the program (R342). -/
def raiseIllegalOpcode (op : Byte) (s : State) : Result :=
  .fault (.illegalOpcode op false (s.pc - 1) { s with locked := true })

/-- The end of a step whose start saw `ime_pending` as `promote` (R129). -/
def promoteIme (promote : Bool) (s : State) : State :=
  if promote && s.imePending then { s with ime := true, imePending := false } else s

end Sys2Proof.Machine
end

