-- ==== Sys2Proof/Syntax.lean ====
section
/-! DEFINITION. The instructions: one constructor per row of `spec/opcode_table.json`, and the names of the operand
classes of R95 to R99. An immediate is part of the instruction. A constructor's comment gives the table's own spelling
and its rule. -/

namespace Sys2Proof

/-- An 8-bit register that an instruction can name (R24). `F` is not one. -/
inductive Reg8 where
  | b
  | c
  | d
  | e
  | h
  | l
  | a
  deriving DecidableEq, Repr

/-- The 8-bit operand slot of R95: a register, or the byte at `HL`. -/
inductive Slot where
  | reg (r : Reg8)
  | indHl
  deriving DecidableEq, Repr

/-- The general 16-bit group of R96. -/
inductive Reg16 where
  | bc
  | de
  | hl
  | sp
  deriving DecidableEq, Repr

/-- The stack group of R97. -/
inductive StackReg where
  | bc
  | de
  | hl
  | af
  deriving DecidableEq, Repr

/-- The conditions of R99. -/
inductive Cond where
  | nz
  | z
  | nc
  | c
  deriving DecidableEq, Repr

/-- The eight accumulator operations of R99. -/
inductive AluOp where
  | add
  | adc
  | sub
  | sbc
  | and
  | xor
  | or
  | cp
  deriving DecidableEq, Repr

/-- The eight rotates, shifts and swap of R106, in their encoding order. -/
inductive ShiftOp where
  | rlc
  | rrc
  | rl
  | rr
  | sla
  | sra
  | swap
  | srl
  deriving DecidableEq, Repr

/-- The instructions: the rows of Table A with operand bytes, the other rows of Table A, the rows of Table B, each in
the order of the opcode table. `prefixCb` and the eleven `illegal` constructors stand for
rows of the table that are no instructions (R295, R296). -/
inductive Instr where
  -- Table A, with operand bytes (R101 to R105)
  | ldBcN16 (n : Word) -- LD BC,n16 (R191)
  | ldBN8 (n : Byte) -- LD B,n8 (R162)
  | ldIndN16Sp (n : Word) -- LD (n16),SP (R192)
  | ldCN8 (n : Byte) -- LD C,n8 (R162)
  | stop (pad : Byte) -- STOP (R292)
  | ldDeN16 (n : Word) -- LD DE,n16 (R191)
  | ldDN8 (n : Byte) -- LD D,n8 (R162)
  | jrE8 (e : Byte) -- JR e8 (R269)
  | ldEN8 (n : Byte) -- LD E,n8 (R162)
  | jrNzE8 (e : Byte) -- JR NZ,e8 (R270)
  | ldHlN16 (n : Word) -- LD HL,n16 (R191)
  | ldHN8 (n : Byte) -- LD H,n8 (R162)
  | jrZE8 (e : Byte) -- JR Z,e8 (R270)
  | ldLN8 (n : Byte) -- LD L,n8 (R162)
  | jrNcE8 (e : Byte) -- JR NC,e8 (R270)
  | ldSpN16 (n : Word) -- LD SP,n16 (R191)
  | ldIndHlN8 (n : Byte) -- LD (HL),n8 (R165)
  | jrCE8 (e : Byte) -- JR C,e8 (R270)
  | ldAN8 (n : Byte) -- LD A,n8 (R162)
  | jpNzN16 (n : Word) -- JP NZ,n16 (R267)
  | jpN16 (n : Word) -- JP n16 (R266)
  | callNzN16 (n : Word) -- CALL NZ,n16 (R272)
  | addAN8 (n : Byte) -- ADD A,n8 (R211)
  | jpZN16 (n : Word) -- JP Z,n16 (R267)
  | callZN16 (n : Word) -- CALL Z,n16 (R272)
  | callN16 (n : Word) -- CALL n16 (R271)
  | adcAN8 (n : Byte) -- ADC A,n8 (R212)
  | jpNcN16 (n : Word) -- JP NC,n16 (R267)
  | callNcN16 (n : Word) -- CALL NC,n16 (R272)
  | subAN8 (n : Byte) -- SUB A,n8 (R213)
  | jpCN16 (n : Word) -- JP C,n16 (R267)
  | callCN16 (n : Word) -- CALL C,n16 (R272)
  | sbcAN8 (n : Byte) -- SBC A,n8 (R214)
  | ldhIndN8A (n : Byte) -- LDH (n8),A (R173)
  | andAN8 (n : Byte) -- AND A,n8 (R215)
  | addSpE8 (e : Byte) -- ADD SP,e8 (R253)
  | ldIndN16A (n : Word) -- LD (n16),A (R171)
  | xorAN8 (n : Byte) -- XOR A,n8 (R216)
  | ldhAIndN8 (n : Byte) -- LDH A,(n8) (R172)
  | orAN8 (n : Byte) -- OR A,n8 (R217)
  | ldHlSpE8 (e : Byte) -- LD HL,SP+e8 (R254)
  | ldAIndN16 (n : Word) -- LD A,(n16) (R170)
  | cpAN8 (n : Byte) -- CP A,n8 (R218)
  -- Table A, the opcode byte alone (R101 to R105)
  | nop -- NOP (R290)
  | ldIndBcA -- LD (BC),A (R168)
  | incBc -- INC BC (R250)
  | incB -- INC B (R219)
  | decB -- DEC B (R221)
  | rlca -- RLCA (R305)
  | addHlBc -- ADD HL,BC (R252)
  | ldAIndBc -- LD A,(BC) (R166)
  | decBc -- DEC BC (R251)
  | incC -- INC C (R219)
  | decC -- DEC C (R221)
  | rrca -- RRCA (R306)
  | ldIndDeA -- LD (DE),A (R169)
  | incDe -- INC DE (R250)
  | incD -- INC D (R219)
  | decD -- DEC D (R221)
  | rla -- RLA (R307)
  | addHlDe -- ADD HL,DE (R252)
  | ldAIndDe -- LD A,(DE) (R167)
  | decDe -- DEC DE (R251)
  | incE -- INC E (R219)
  | decE -- DEC E (R221)
  | rra -- RRA (R308)
  | ldIndHliA -- LD (HL+),A (R176)
  | incHl -- INC HL (R250)
  | incH -- INC H (R219)
  | decH -- DEC H (R221)
  | daa -- DAA (R223)
  | addHlHl -- ADD HL,HL (R252)
  | ldAIndHli -- LD A,(HL+) (R178)
  | decHl -- DEC HL (R251)
  | incL -- INC L (R219)
  | decL -- DEC L (R221)
  | cpl -- CPL (R224)
  | ldIndHldA -- LD (HL-),A (R177)
  | incSp -- INC SP (R250)
  | incIndHl -- INC (HL) (R220)
  | decIndHl -- DEC (HL) (R222)
  | scf -- SCF (R225)
  | addHlSp -- ADD HL,SP (R252)
  | ldAIndHld -- LD A,(HL-) (R179)
  | decSp -- DEC SP (R251)
  | incA -- INC A (R219)
  | decA -- DEC A (R221)
  | ccf -- CCF (R226)
  | ldBB -- LD B,B (R161)
  | ldBC -- LD B,C (R161)
  | ldBD -- LD B,D (R161)
  | ldBE -- LD B,E (R161)
  | ldBH -- LD B,H (R161)
  | ldBL -- LD B,L (R161)
  | ldBIndHl -- LD B,(HL) (R163)
  | ldBA -- LD B,A (R161)
  | ldCB -- LD C,B (R161)
  | ldCC -- LD C,C (R161)
  | ldCD -- LD C,D (R161)
  | ldCE -- LD C,E (R161)
  | ldCH -- LD C,H (R161)
  | ldCL -- LD C,L (R161)
  | ldCIndHl -- LD C,(HL) (R163)
  | ldCA -- LD C,A (R161)
  | ldDB -- LD D,B (R161)
  | ldDC -- LD D,C (R161)
  | ldDD -- LD D,D (R161)
  | ldDE -- LD D,E (R161)
  | ldDH -- LD D,H (R161)
  | ldDL -- LD D,L (R161)
  | ldDIndHl -- LD D,(HL) (R163)
  | ldDA -- LD D,A (R161)
  | ldEB -- LD E,B (R161)
  | ldEC -- LD E,C (R161)
  | ldED -- LD E,D (R161)
  | ldEE -- LD E,E (R161)
  | ldEH -- LD E,H (R161)
  | ldEL -- LD E,L (R161)
  | ldEIndHl -- LD E,(HL) (R163)
  | ldEA -- LD E,A (R161)
  | ldHB -- LD H,B (R161)
  | ldHC -- LD H,C (R161)
  | ldHD -- LD H,D (R161)
  | ldHE -- LD H,E (R161)
  | ldHH -- LD H,H (R161)
  | ldHL -- LD H,L (R161)
  | ldHIndHl -- LD H,(HL) (R163)
  | ldHA -- LD H,A (R161)
  | ldLB -- LD L,B (R161)
  | ldLC -- LD L,C (R161)
  | ldLD -- LD L,D (R161)
  | ldLE -- LD L,E (R161)
  | ldLH -- LD L,H (R161)
  | ldLL -- LD L,L (R161)
  | ldLIndHl -- LD L,(HL) (R163)
  | ldLA -- LD L,A (R161)
  | ldIndHlB -- LD (HL),B (R164)
  | ldIndHlC -- LD (HL),C (R164)
  | ldIndHlD -- LD (HL),D (R164)
  | ldIndHlE -- LD (HL),E (R164)
  | ldIndHlH -- LD (HL),H (R164)
  | ldIndHlL -- LD (HL),L (R164)
  | halt -- HALT (R291)
  | ldIndHlA -- LD (HL),A (R164)
  | ldAB -- LD A,B (R161)
  | ldAC -- LD A,C (R161)
  | ldAD -- LD A,D (R161)
  | ldAE -- LD A,E (R161)
  | ldAH -- LD A,H (R161)
  | ldAL -- LD A,L (R161)
  | ldAIndHl -- LD A,(HL) (R163)
  | ldAA -- LD A,A (R161)
  | addAB -- ADD A,B (R211)
  | addAC -- ADD A,C (R211)
  | addAD -- ADD A,D (R211)
  | addAE -- ADD A,E (R211)
  | addAH -- ADD A,H (R211)
  | addAL -- ADD A,L (R211)
  | addAIndHl -- ADD A,(HL) (R211)
  | addAA -- ADD A,A (R211)
  | adcAB -- ADC A,B (R212)
  | adcAC -- ADC A,C (R212)
  | adcAD -- ADC A,D (R212)
  | adcAE -- ADC A,E (R212)
  | adcAH -- ADC A,H (R212)
  | adcAL -- ADC A,L (R212)
  | adcAIndHl -- ADC A,(HL) (R212)
  | adcAA -- ADC A,A (R212)
  | subAB -- SUB A,B (R213)
  | subAC -- SUB A,C (R213)
  | subAD -- SUB A,D (R213)
  | subAE -- SUB A,E (R213)
  | subAH -- SUB A,H (R213)
  | subAL -- SUB A,L (R213)
  | subAIndHl -- SUB A,(HL) (R213)
  | subAA -- SUB A,A (R213)
  | sbcAB -- SBC A,B (R214)
  | sbcAC -- SBC A,C (R214)
  | sbcAD -- SBC A,D (R214)
  | sbcAE -- SBC A,E (R214)
  | sbcAH -- SBC A,H (R214)
  | sbcAL -- SBC A,L (R214)
  | sbcAIndHl -- SBC A,(HL) (R214)
  | sbcAA -- SBC A,A (R214)
  | andAB -- AND A,B (R215)
  | andAC -- AND A,C (R215)
  | andAD -- AND A,D (R215)
  | andAE -- AND A,E (R215)
  | andAH -- AND A,H (R215)
  | andAL -- AND A,L (R215)
  | andAIndHl -- AND A,(HL) (R215)
  | andAA -- AND A,A (R215)
  | xorAB -- XOR A,B (R216)
  | xorAC -- XOR A,C (R216)
  | xorAD -- XOR A,D (R216)
  | xorAE -- XOR A,E (R216)
  | xorAH -- XOR A,H (R216)
  | xorAL -- XOR A,L (R216)
  | xorAIndHl -- XOR A,(HL) (R216)
  | xorAA -- XOR A,A (R216)
  | orAB -- OR A,B (R217)
  | orAC -- OR A,C (R217)
  | orAD -- OR A,D (R217)
  | orAE -- OR A,E (R217)
  | orAH -- OR A,H (R217)
  | orAL -- OR A,L (R217)
  | orAIndHl -- OR A,(HL) (R217)
  | orAA -- OR A,A (R217)
  | cpAB -- CP A,B (R218)
  | cpAC -- CP A,C (R218)
  | cpAD -- CP A,D (R218)
  | cpAE -- CP A,E (R218)
  | cpAH -- CP A,H (R218)
  | cpAL -- CP A,L (R218)
  | cpAIndHl -- CP A,(HL) (R218)
  | cpAA -- CP A,A (R218)
  | retNz -- RET NZ (R274)
  | popBc -- POP BC (R196)
  | pushBc -- PUSH BC (R194)
  | rst00 -- RST 0x00 (R278)
  | retZ -- RET Z (R274)
  | ret -- RET (R273)
  | prefixCb -- PREFIX CB (R296)
  | rst08 -- RST 0x08 (R278)
  | retNc -- RET NC (R274)
  | popDe -- POP DE (R196)
  | illegalD3 -- ILLEGAL D3 (R295)
  | pushDe -- PUSH DE (R194)
  | rst10 -- RST 0x10 (R278)
  | retC -- RET C (R274)
  | reti -- RETI (R275)
  | illegalDB -- ILLEGAL DB (R295)
  | illegalDD -- ILLEGAL DD (R295)
  | rst18 -- RST 0x18 (R278)
  | popHl -- POP HL (R196)
  | ldhIndCA -- LDH (C),A (R175)
  | illegalE3 -- ILLEGAL E3 (R295)
  | illegalE4 -- ILLEGAL E4 (R295)
  | pushHl -- PUSH HL (R194)
  | rst20 -- RST 0x20 (R278)
  | jpHl -- JP HL (R268)
  | illegalEB -- ILLEGAL EB (R295)
  | illegalEC -- ILLEGAL EC (R295)
  | illegalED -- ILLEGAL ED (R295)
  | rst28 -- RST 0x28 (R278)
  | popAf -- POP AF (R197)
  | ldhAIndC -- LDH A,(C) (R174)
  | di -- DI (R293)
  | illegalF4 -- ILLEGAL F4 (R295)
  | pushAf -- PUSH AF (R195)
  | rst30 -- RST 0x30 (R278)
  | ldSpHl -- LD SP,HL (R193)
  | ei -- EI (R294)
  | illegalFC -- ILLEGAL FC (R295)
  | illegalFD -- ILLEGAL FD (R295)
  | rst38 -- RST 0x38 (R278)
  -- Table B (R106)
  | rlcB -- RLC B (R310)
  | rlcC -- RLC C (R310)
  | rlcD -- RLC D (R310)
  | rlcE -- RLC E (R310)
  | rlcH -- RLC H (R310)
  | rlcL -- RLC L (R310)
  | rlcIndHl -- RLC (HL) (R311)
  | rlcA -- RLC A (R310)
  | rrcB -- RRC B (R312)
  | rrcC -- RRC C (R312)
  | rrcD -- RRC D (R312)
  | rrcE -- RRC E (R312)
  | rrcH -- RRC H (R312)
  | rrcL -- RRC L (R312)
  | rrcIndHl -- RRC (HL) (R313)
  | rrcA -- RRC A (R312)
  | rlB -- RL B (R314)
  | rlC -- RL C (R314)
  | rlD -- RL D (R314)
  | rlE -- RL E (R314)
  | rlH -- RL H (R314)
  | rlL -- RL L (R314)
  | rlIndHl -- RL (HL) (R315)
  | rlA -- RL A (R314)
  | rrB -- RR B (R316)
  | rrC -- RR C (R316)
  | rrD -- RR D (R316)
  | rrE -- RR E (R316)
  | rrH -- RR H (R316)
  | rrL -- RR L (R316)
  | rrIndHl -- RR (HL) (R317)
  | rrA -- RR A (R316)
  | slaB -- SLA B (R318)
  | slaC -- SLA C (R318)
  | slaD -- SLA D (R318)
  | slaE -- SLA E (R318)
  | slaH -- SLA H (R318)
  | slaL -- SLA L (R318)
  | slaIndHl -- SLA (HL) (R319)
  | slaA -- SLA A (R318)
  | sraB -- SRA B (R320)
  | sraC -- SRA C (R320)
  | sraD -- SRA D (R320)
  | sraE -- SRA E (R320)
  | sraH -- SRA H (R320)
  | sraL -- SRA L (R320)
  | sraIndHl -- SRA (HL) (R321)
  | sraA -- SRA A (R320)
  | swapB -- SWAP B (R324)
  | swapC -- SWAP C (R324)
  | swapD -- SWAP D (R324)
  | swapE -- SWAP E (R324)
  | swapH -- SWAP H (R324)
  | swapL -- SWAP L (R324)
  | swapIndHl -- SWAP (HL) (R325)
  | swapA -- SWAP A (R324)
  | srlB -- SRL B (R322)
  | srlC -- SRL C (R322)
  | srlD -- SRL D (R322)
  | srlE -- SRL E (R322)
  | srlH -- SRL H (R322)
  | srlL -- SRL L (R322)
  | srlIndHl -- SRL (HL) (R323)
  | srlA -- SRL A (R322)
  | bit0B -- BIT 0,B (R326)
  | bit0C -- BIT 0,C (R326)
  | bit0D -- BIT 0,D (R326)
  | bit0E -- BIT 0,E (R326)
  | bit0H -- BIT 0,H (R326)
  | bit0L -- BIT 0,L (R326)
  | bit0IndHl -- BIT 0,(HL) (R327)
  | bit0A -- BIT 0,A (R326)
  | bit1B -- BIT 1,B (R326)
  | bit1C -- BIT 1,C (R326)
  | bit1D -- BIT 1,D (R326)
  | bit1E -- BIT 1,E (R326)
  | bit1H -- BIT 1,H (R326)
  | bit1L -- BIT 1,L (R326)
  | bit1IndHl -- BIT 1,(HL) (R327)
  | bit1A -- BIT 1,A (R326)
  | bit2B -- BIT 2,B (R326)
  | bit2C -- BIT 2,C (R326)
  | bit2D -- BIT 2,D (R326)
  | bit2E -- BIT 2,E (R326)
  | bit2H -- BIT 2,H (R326)
  | bit2L -- BIT 2,L (R326)
  | bit2IndHl -- BIT 2,(HL) (R327)
  | bit2A -- BIT 2,A (R326)
  | bit3B -- BIT 3,B (R326)
  | bit3C -- BIT 3,C (R326)
  | bit3D -- BIT 3,D (R326)
  | bit3E -- BIT 3,E (R326)
  | bit3H -- BIT 3,H (R326)
  | bit3L -- BIT 3,L (R326)
  | bit3IndHl -- BIT 3,(HL) (R327)
  | bit3A -- BIT 3,A (R326)
  | bit4B -- BIT 4,B (R326)
  | bit4C -- BIT 4,C (R326)
  | bit4D -- BIT 4,D (R326)
  | bit4E -- BIT 4,E (R326)
  | bit4H -- BIT 4,H (R326)
  | bit4L -- BIT 4,L (R326)
  | bit4IndHl -- BIT 4,(HL) (R327)
  | bit4A -- BIT 4,A (R326)
  | bit5B -- BIT 5,B (R326)
  | bit5C -- BIT 5,C (R326)
  | bit5D -- BIT 5,D (R326)
  | bit5E -- BIT 5,E (R326)
  | bit5H -- BIT 5,H (R326)
  | bit5L -- BIT 5,L (R326)
  | bit5IndHl -- BIT 5,(HL) (R327)
  | bit5A -- BIT 5,A (R326)
  | bit6B -- BIT 6,B (R326)
  | bit6C -- BIT 6,C (R326)
  | bit6D -- BIT 6,D (R326)
  | bit6E -- BIT 6,E (R326)
  | bit6H -- BIT 6,H (R326)
  | bit6L -- BIT 6,L (R326)
  | bit6IndHl -- BIT 6,(HL) (R327)
  | bit6A -- BIT 6,A (R326)
  | bit7B -- BIT 7,B (R326)
  | bit7C -- BIT 7,C (R326)
  | bit7D -- BIT 7,D (R326)
  | bit7E -- BIT 7,E (R326)
  | bit7H -- BIT 7,H (R326)
  | bit7L -- BIT 7,L (R326)
  | bit7IndHl -- BIT 7,(HL) (R327)
  | bit7A -- BIT 7,A (R326)
  | res0B -- RES 0,B (R328)
  | res0C -- RES 0,C (R328)
  | res0D -- RES 0,D (R328)
  | res0E -- RES 0,E (R328)
  | res0H -- RES 0,H (R328)
  | res0L -- RES 0,L (R328)
  | res0IndHl -- RES 0,(HL) (R329)
  | res0A -- RES 0,A (R328)
  | res1B -- RES 1,B (R328)
  | res1C -- RES 1,C (R328)
  | res1D -- RES 1,D (R328)
  | res1E -- RES 1,E (R328)
  | res1H -- RES 1,H (R328)
  | res1L -- RES 1,L (R328)
  | res1IndHl -- RES 1,(HL) (R329)
  | res1A -- RES 1,A (R328)
  | res2B -- RES 2,B (R328)
  | res2C -- RES 2,C (R328)
  | res2D -- RES 2,D (R328)
  | res2E -- RES 2,E (R328)
  | res2H -- RES 2,H (R328)
  | res2L -- RES 2,L (R328)
  | res2IndHl -- RES 2,(HL) (R329)
  | res2A -- RES 2,A (R328)
  | res3B -- RES 3,B (R328)
  | res3C -- RES 3,C (R328)
  | res3D -- RES 3,D (R328)
  | res3E -- RES 3,E (R328)
  | res3H -- RES 3,H (R328)
  | res3L -- RES 3,L (R328)
  | res3IndHl -- RES 3,(HL) (R329)
  | res3A -- RES 3,A (R328)
  | res4B -- RES 4,B (R328)
  | res4C -- RES 4,C (R328)
  | res4D -- RES 4,D (R328)
  | res4E -- RES 4,E (R328)
  | res4H -- RES 4,H (R328)
  | res4L -- RES 4,L (R328)
  | res4IndHl -- RES 4,(HL) (R329)
  | res4A -- RES 4,A (R328)
  | res5B -- RES 5,B (R328)
  | res5C -- RES 5,C (R328)
  | res5D -- RES 5,D (R328)
  | res5E -- RES 5,E (R328)
  | res5H -- RES 5,H (R328)
  | res5L -- RES 5,L (R328)
  | res5IndHl -- RES 5,(HL) (R329)
  | res5A -- RES 5,A (R328)
  | res6B -- RES 6,B (R328)
  | res6C -- RES 6,C (R328)
  | res6D -- RES 6,D (R328)
  | res6E -- RES 6,E (R328)
  | res6H -- RES 6,H (R328)
  | res6L -- RES 6,L (R328)
  | res6IndHl -- RES 6,(HL) (R329)
  | res6A -- RES 6,A (R328)
  | res7B -- RES 7,B (R328)
  | res7C -- RES 7,C (R328)
  | res7D -- RES 7,D (R328)
  | res7E -- RES 7,E (R328)
  | res7H -- RES 7,H (R328)
  | res7L -- RES 7,L (R328)
  | res7IndHl -- RES 7,(HL) (R329)
  | res7A -- RES 7,A (R328)
  | set0B -- SET 0,B (R330)
  | set0C -- SET 0,C (R330)
  | set0D -- SET 0,D (R330)
  | set0E -- SET 0,E (R330)
  | set0H -- SET 0,H (R330)
  | set0L -- SET 0,L (R330)
  | set0IndHl -- SET 0,(HL) (R331)
  | set0A -- SET 0,A (R330)
  | set1B -- SET 1,B (R330)
  | set1C -- SET 1,C (R330)
  | set1D -- SET 1,D (R330)
  | set1E -- SET 1,E (R330)
  | set1H -- SET 1,H (R330)
  | set1L -- SET 1,L (R330)
  | set1IndHl -- SET 1,(HL) (R331)
  | set1A -- SET 1,A (R330)
  | set2B -- SET 2,B (R330)
  | set2C -- SET 2,C (R330)
  | set2D -- SET 2,D (R330)
  | set2E -- SET 2,E (R330)
  | set2H -- SET 2,H (R330)
  | set2L -- SET 2,L (R330)
  | set2IndHl -- SET 2,(HL) (R331)
  | set2A -- SET 2,A (R330)
  | set3B -- SET 3,B (R330)
  | set3C -- SET 3,C (R330)
  | set3D -- SET 3,D (R330)
  | set3E -- SET 3,E (R330)
  | set3H -- SET 3,H (R330)
  | set3L -- SET 3,L (R330)
  | set3IndHl -- SET 3,(HL) (R331)
  | set3A -- SET 3,A (R330)
  | set4B -- SET 4,B (R330)
  | set4C -- SET 4,C (R330)
  | set4D -- SET 4,D (R330)
  | set4E -- SET 4,E (R330)
  | set4H -- SET 4,H (R330)
  | set4L -- SET 4,L (R330)
  | set4IndHl -- SET 4,(HL) (R331)
  | set4A -- SET 4,A (R330)
  | set5B -- SET 5,B (R330)
  | set5C -- SET 5,C (R330)
  | set5D -- SET 5,D (R330)
  | set5E -- SET 5,E (R330)
  | set5H -- SET 5,H (R330)
  | set5L -- SET 5,L (R330)
  | set5IndHl -- SET 5,(HL) (R331)
  | set5A -- SET 5,A (R330)
  | set6B -- SET 6,B (R330)
  | set6C -- SET 6,C (R330)
  | set6D -- SET 6,D (R330)
  | set6E -- SET 6,E (R330)
  | set6H -- SET 6,H (R330)
  | set6L -- SET 6,L (R330)
  | set6IndHl -- SET 6,(HL) (R331)
  | set6A -- SET 6,A (R330)
  | set7B -- SET 7,B (R330)
  | set7C -- SET 7,C (R330)
  | set7D -- SET 7,D (R330)
  | set7E -- SET 7,E (R330)
  | set7H -- SET 7,H (R330)
  | set7L -- SET 7,L (R330)
  | set7IndHl -- SET 7,(HL) (R331)
  | set7A -- SET 7,A (R330)
  deriving DecidableEq, Repr

end Sys2Proof
end

