-- ==== Sys2Proof/Machine/Operands.lean ====
section
/-! DEFINITION. The operand forms: 8-bit registers, operand slots, register pairs, the stack group and conditions
(R20 to R24, R95 to R99, R132, R133, R136). -/

namespace Sys2Proof.Machine

/-- An 8-bit register. -/
def State.reg8 (s : State) (r : Reg8) : Byte :=
  match r with
  | .a => s.a
  | .b => s.b
  | .c => s.c
  | .d => s.d
  | .e => s.e
  | .h => s.h
  | .l => s.l

/-- `R <- v` for an 8-bit register. -/
def State.setReg8 (s : State) (r : Reg8) (v : Byte) : State :=
  match r with
  | .a => { s with a := v }
  | .b => { s with b := v }
  | .c => { s with c := v }
  | .d => { s with d := v }
  | .e => { s with e := v }
  | .h => { s with h := v }
  | .l => { s with l := v }

/-- `F` as a byte: bits 3..0 are always read as 0 (R23). -/
def State.readF (s : State) : Byte := s.f &&& 0xF0

/-- `F <- v`: bits 3..0 are ignored on a write (R23). -/
def State.writeF (s : State) (v : Byte) : State := { s with f := v &&& 0xF0 }

/-- `HL`, the address of the `(HL)` operand (R21). -/
def State.hl (s : State) : Word := joinBytes s.h s.l

/-- A register of the general 16-bit group: a pair is read as `(high << 8) | low` (R21, R96). -/
def State.reg16 (s : State) (r : Reg16) : Word :=
  match r with
  | .bc => joinBytes s.b s.c
  | .de => joinBytes s.d s.e
  | .hl => s.hl
  | .sp => s.sp

/-- A write to a register of the general 16-bit group: the high byte goes to the first-named register (R21). -/
def State.setReg16 (s : State) (r : Reg16) (w : Word) : State :=
  match r with
  | .bc => { s with b := high w, c := low w }
  | .de => { s with d := high w, e := low w }
  | .hl => { s with h := high w, l := low w }
  | .sp => { s with sp := w }

/-- A register of the stack group (R97): `AF` is read with its low nibble 0 (R23). -/
def State.stackReg (s : State) (r : StackReg) : Word :=
  match r with
  | .bc => joinBytes s.b s.c
  | .de => joinBytes s.d s.e
  | .hl => s.hl
  | .af => joinBytes s.a s.readF

/-- A write to a register of the stack group: `AF <- w` masks the low nibble of `F` (R23). -/
def State.setStackReg (s : State) (r : StackReg) (w : Word) : State :=
  match r with
  | .bc => { s with b := high w, c := low w }
  | .de => { s with d := high w, e := low w }
  | .hl => { s with h := high w, l := low w }
  | .af => ({ s with a := high w }).writeF (low w)

/-- `read_r8(s)`: a register, with no bus access, or the byte at `HL` (R132). -/
def readSlot (slot : Slot) (s : State) : Byte × State :=
  match slot with
  | .reg r => (s.reg8 r, s)
  | .indHl => memRead s.hl s

/-- `write_r8(s, v)` (R133). -/
def writeSlot (slot : Slot) (v : Byte) (s : State) : State :=
  match slot with
  | .reg r => s.setReg8 r v
  | .indHl => memWrite s.hl v s

/-- The flag `Z`, `F[7]` (R22). -/
def State.flagZ (s : State) : Bool := s.f.getLsbD 7

/-- The flag `N`, `F[6]` (R22). -/
def State.flagN (s : State) : Bool := s.f.getLsbD 6

/-- The flag `H`, `F[5]` (R22). -/
def State.flagH (s : State) : Bool := s.f.getLsbD 5

/-- The flag `C`, `F[4]` (R22). -/
def State.flagC (s : State) : Bool := s.f.getLsbD 4

/-- `cond(cc)` (R136). -/
def State.cond (s : State) (cc : Cond) : Bool :=
  match cc with
  | .nz => !s.flagZ
  | .z => s.flagZ
  | .nc => !s.flagC
  | .c => s.flagC

/-- The high page: `0xFF00 | offset` (R172 to R175). -/
def highPage (offset : Byte) : Word := 0xFF00 ||| zext16 offset

end Sys2Proof.Machine
end

