-- ==== Sys2Proof/Machine/Flags.lean ====
section
/-! DEFINITION. The arithmetic and every flag computation (R31, R210 to R226, R252 to R254, R304 to R330). -/

namespace Sys2Proof.Machine

/-- `F` with the four flags `Z N H C` in bits 7..4 (R22). -/
def packFlags (z n h c : Bool) : Byte :=
  (if z then 0x80 else 0x00) ||| (if n then 0x40 else 0x00) |||
    (if h then 0x20 else 0x00) ||| (if c then 0x10 else 0x00)

/-- All four flags at once. A flag an instruction keeps is passed as it was (R31). -/
def State.setFlags (s : State) (z n h c : Bool) : State := s.writeF (packFlags z n h c)

/-- An 8-bit result with the carries out of bits 3 and 7. -/
structure Sum8 where
  res : Byte
  h : Bool
  c : Bool
  deriving DecidableEq, Repr

/-- `add8` of R210: the sum is exact, and the carry-in counts in both carries. -/
def add8 (x y : Byte) (cin : Bool) : Sum8 where
  res := BitVec.ofNat 8 (x.toNat + y.toNat + cin.toNat)
  h := decide (x.toNat % 16 + y.toNat % 16 + cin.toNat > 15)
  c := decide (x.toNat + y.toNat + cin.toNat > 255)

/-- `sub8` of R210: the difference is exact, and the borrow-in counts in both borrows. -/
def sub8 (x y : Byte) (cin : Bool) : Sum8 where
  res := BitVec.ofInt 8 ((x.toNat : Int) - y.toNat - cin.toNat)
  h := decide (x.toNat % 16 < y.toNat % 16 + cin.toNat)
  c := decide (x.toNat < y.toNat + cin.toNat)

/-- The eight accumulator operations on the operand `v`, with their flags (R211 to R218). `CP` writes no register. -/
def accumulate (op : AluOp) (v : Byte) (s : State) : State :=
  match op with
  | .add =>
    let r := add8 s.a v false
    { s with a := r.res }.setFlags (r.res == 0) false r.h r.c
  | .adc =>
    let r := add8 s.a v s.flagC
    { s with a := r.res }.setFlags (r.res == 0) false r.h r.c
  | .sub =>
    let r := sub8 s.a v false
    { s with a := r.res }.setFlags (r.res == 0) true r.h r.c
  | .sbc =>
    let r := sub8 s.a v s.flagC
    { s with a := r.res }.setFlags (r.res == 0) true r.h r.c
  | .and => { s with a := s.a &&& v }.setFlags (s.a &&& v == 0) false true false
  | .xor => { s with a := s.a ^^^ v }.setFlags (s.a ^^^ v == 0) false false false
  | .or => { s with a := s.a ||| v }.setFlags (s.a ||| v == 0) false false false
  | .cp =>
    let r := sub8 s.a v false
    s.setFlags (r.res == 0) true r.h r.c

/-- The flags of an increment of `v`: `C` is kept (R219). -/
def incFlags (v : Byte) (s : State) : State :=
  s.setFlags (v + 1 == 0) false (decide (v.toNat % 16 + 1 > 15)) s.flagC

/-- The flags of a decrement of `v`: `C` is kept (R221). -/
def decFlags (v : Byte) (s : State) : State :=
  s.setFlags (v - 1 == 0) true (decide (v.toNat % 16 < 1)) s.flagC

/-- The algorithm of R223: the adjusted accumulator and the new carry. Both tests of the `N = 0` branch use the
value before any adjustment. -/
def decimalAdjusted (x : Byte) (n h c : Bool) : Byte × Bool :=
  if n then
    (x - (if h then 0x06 else 0x00) - (if c then 0x60 else 0x00), c)
  else
    let lowAdjust := h || decide (x.toNat % 16 > 9)
    let highAdjust := c || decide (x.toNat > 0x99)
    (x + (if lowAdjust then 0x06 else 0x00) + (if highAdjust then 0x60 else 0x00), highAdjust)

/-- The 16-bit sum with the carries out of bits 11 and 15: `Z` is kept (R252). -/
def addHlFlags (x y : Word) (s : State) : State :=
  s.setFlags s.flagZ false (decide (x.toNat % 4096 + y.toNat % 4096 > 4095)) (decide (x.toNat + y.toNat > 65535))

/-- The flags of `sp` plus an offset byte: the carries of the low-byte unsigned addition, whatever the offset's sign
(R253, R254). -/
def spOffsetFlags (sp : Word) (e : Byte) (s : State) : State :=
  let r := add8 (low sp) e false
  s.setFlags false false r.h r.c

/-- The pure function of each rotate, shift and swap of `v` with the old carry `cin`: the result and the new carry
(R305 to R308, R310 to R325). -/
def shifted (op : ShiftOp) (v : Byte) (cin : Bool) : Byte × Bool :=
  match op with
  | .rlc => ((v <<< 1) ||| lsbIf (v.getLsbD 7), v.getLsbD 7)
  | .rrc => ((v >>> 1) ||| msbIf (v.getLsbD 0), v.getLsbD 0)
  | .rl => ((v <<< 1) ||| lsbIf cin, v.getLsbD 7)
  | .rr => ((v >>> 1) ||| msbIf cin, v.getLsbD 0)
  | .sla => (v <<< 1, v.getLsbD 7)
  | .sra => ((v >>> 1) ||| (v &&& 0x80), v.getLsbD 0)
  | .swap => ((v <<< 4) ||| (v >>> 4), false)
  | .srl => (v >>> 1, v.getLsbD 0)

/-- The flags of a Table B rotate, shift or swap with result `res` (R310 to R325). -/
def shiftFlags (res : Byte) (c : Bool) (s : State) : State := s.setFlags (res == 0) false false c

/-- The flags of `BIT n` on `v`: `Z` is the complement of the bit, `C` is kept (R326). -/
def bitTestFlags (n : Nat) (v : Byte) (s : State) : State := s.setFlags (!v.getLsbD n) false true s.flagC

end Sys2Proof.Machine
end

