-- ==== Sys2Proof/Machine/Alu16.lean ====
section
/-! DEFINITION. 16-bit arithmetic (`44_alu16.md`). -/

namespace Sys2Proof.Machine

/-- `INC r16`: no flag (R250). -/
def opIncPair (r : Reg16) (s : State) : State := s.setReg16 r (s.reg16 r + 1)

/-- `DEC r16`: no flag (R251). -/
def opDecPair (r : Reg16) (s : State) : State := s.setReg16 r (s.reg16 r - 1)

/-- `ADD HL,r16` (R252). -/
def opAddHl (r : Reg16) (s : State) : State :=
  (addHlFlags s.hl (s.reg16 r) s).setReg16 .hl (s.hl + s.reg16 r)

/-- `INC BC` (R250). -/
def execIncBc (s : State) : Result := .next (opIncPair .bc s)

/-- `ADD HL,BC` (R252). -/
def execAddHlBc (s : State) : Result := .next (opAddHl .bc s)

/-- `DEC BC` (R251). -/
def execDecBc (s : State) : Result := .next (opDecPair .bc s)

/-- `INC DE` (R250). -/
def execIncDe (s : State) : Result := .next (opIncPair .de s)

/-- `ADD HL,DE` (R252). -/
def execAddHlDe (s : State) : Result := .next (opAddHl .de s)

/-- `DEC DE` (R251). -/
def execDecDe (s : State) : Result := .next (opDecPair .de s)

/-- `INC HL` (R250). -/
def execIncHl (s : State) : Result := .next (opIncPair .hl s)

/-- `ADD HL,HL` (R252). -/
def execAddHlHl (s : State) : Result := .next (opAddHl .hl s)

/-- `DEC HL` (R251). -/
def execDecHl (s : State) : Result := .next (opDecPair .hl s)

/-- `INC SP` (R250). -/
def execIncSp (s : State) : Result := .next (opIncPair .sp s)

/-- `ADD HL,SP` (R252). -/
def execAddHlSp (s : State) : Result := .next (opAddHl .sp s)

/-- `DEC SP` (R251). -/
def execDecSp (s : State) : Result := .next (opDecPair .sp s)

/-- `ADD SP,e8` (R253). -/
def execAddSpE8 (e : Byte) (s : State) : Result := .next { spOffsetFlags s.sp e s with sp := s.sp + sext16 e }

/-- `LD HL,SP+e8` (R254). -/
def execLdHlSpE8 (e : Byte) (s : State) : Result := .next ((spOffsetFlags s.sp e s).setReg16 .hl (s.sp + sext16 e))

end Sys2Proof.Machine
end

