-- ==== Sys2Proof/Machine/Alu8.lean ====
section
/-! DEFINITION. 8-bit arithmetic and logic (`43_alu8.md`). -/

namespace Sys2Proof.Machine

/-- An accumulator operation on a register: its value before the operation (R210). -/
def opAluReg (op : AluOp) (src : Reg8) (s : State) : State := accumulate op (s.reg8 src) s

/-- An accumulator operation on the byte at `HL` (R210). -/
def opAluInd (op : AluOp) (s : State) : State :=
  let (v, s1) := memRead s.hl s
  accumulate op v s1

/-- An accumulator operation on an immediate (R210). -/
def opAluImm (op : AluOp) (n : Byte) (s : State) : State := accumulate op n s

/-- `INC r8` (R219). -/
def opIncReg (r : Reg8) (s : State) : State := (incFlags (s.reg8 r) s).setReg8 r (s.reg8 r + 1)

/-- `INC (HL)`: one read, then one write (R220). -/
def opIncInd (s : State) : State :=
  let (v, s1) := memRead s.hl s
  incFlags v (memWrite s.hl (v + 1) s1)

/-- `DEC r8` (R221). -/
def opDecReg (r : Reg8) (s : State) : State := (decFlags (s.reg8 r) s).setReg8 r (s.reg8 r - 1)

/-- `DEC (HL)`: one read, then one write (R222). -/
def opDecInd (s : State) : State :=
  let (v, s1) := memRead s.hl s
  decFlags v (memWrite s.hl (v - 1) s1)

/-- `INC B` (R219). -/
def execIncB (s : State) : Result := .next (opIncReg .b s)

/-- `DEC B` (R221). -/
def execDecB (s : State) : Result := .next (opDecReg .b s)

/-- `INC C` (R219). -/
def execIncC (s : State) : Result := .next (opIncReg .c s)

/-- `DEC C` (R221). -/
def execDecC (s : State) : Result := .next (opDecReg .c s)

/-- `INC D` (R219). -/
def execIncD (s : State) : Result := .next (opIncReg .d s)

/-- `DEC D` (R221). -/
def execDecD (s : State) : Result := .next (opDecReg .d s)

/-- `INC E` (R219). -/
def execIncE (s : State) : Result := .next (opIncReg .e s)

/-- `DEC E` (R221). -/
def execDecE (s : State) : Result := .next (opDecReg .e s)

/-- `INC H` (R219). -/
def execIncH (s : State) : Result := .next (opIncReg .h s)

/-- `DEC H` (R221). -/
def execDecH (s : State) : Result := .next (opDecReg .h s)

/-- `DAA` (R223). -/
def execDaa (s : State) : Result :=
  let r := decimalAdjusted s.a s.flagN s.flagH s.flagC
  .next ({ s with a := r.1 }.setFlags (r.1 == 0) s.flagN false r.2)

/-- `INC L` (R219). -/
def execIncL (s : State) : Result := .next (opIncReg .l s)

/-- `DEC L` (R221). -/
def execDecL (s : State) : Result := .next (opDecReg .l s)

/-- `CPL` (R224). -/
def execCpl (s : State) : Result := .next ({ s with a := ~~~s.a }.setFlags s.flagZ true true s.flagC)

/-- `INC (HL)` (R220). -/
def execIncIndHl (s : State) : Result := .next (opIncInd s)

/-- `DEC (HL)` (R222). -/
def execDecIndHl (s : State) : Result := .next (opDecInd s)

/-- `SCF` (R225). -/
def execScf (s : State) : Result := .next (s.setFlags s.flagZ false false true)

/-- `INC A` (R219). -/
def execIncA (s : State) : Result := .next (opIncReg .a s)

/-- `DEC A` (R221). -/
def execDecA (s : State) : Result := .next (opDecReg .a s)

/-- `CCF` (R226). -/
def execCcf (s : State) : Result := .next (s.setFlags s.flagZ false false (!s.flagC))

/-- `ADD A,B` (R211). -/
def execAddAB (s : State) : Result := .next (opAluReg .add .b s)

/-- `ADD A,C` (R211). -/
def execAddAC (s : State) : Result := .next (opAluReg .add .c s)

/-- `ADD A,D` (R211). -/
def execAddAD (s : State) : Result := .next (opAluReg .add .d s)

/-- `ADD A,E` (R211). -/
def execAddAE (s : State) : Result := .next (opAluReg .add .e s)

/-- `ADD A,H` (R211). -/
def execAddAH (s : State) : Result := .next (opAluReg .add .h s)

/-- `ADD A,L` (R211). -/
def execAddAL (s : State) : Result := .next (opAluReg .add .l s)

/-- `ADD A,(HL)` (R211). -/
def execAddAIndHl (s : State) : Result := .next (opAluInd .add s)

/-- `ADD A,A` (R211). -/
def execAddAA (s : State) : Result := .next (opAluReg .add .a s)

/-- `ADC A,B` (R212). -/
def execAdcAB (s : State) : Result := .next (opAluReg .adc .b s)

/-- `ADC A,C` (R212). -/
def execAdcAC (s : State) : Result := .next (opAluReg .adc .c s)

/-- `ADC A,D` (R212). -/
def execAdcAD (s : State) : Result := .next (opAluReg .adc .d s)

/-- `ADC A,E` (R212). -/
def execAdcAE (s : State) : Result := .next (opAluReg .adc .e s)

/-- `ADC A,H` (R212). -/
def execAdcAH (s : State) : Result := .next (opAluReg .adc .h s)

/-- `ADC A,L` (R212). -/
def execAdcAL (s : State) : Result := .next (opAluReg .adc .l s)

/-- `ADC A,(HL)` (R212). -/
def execAdcAIndHl (s : State) : Result := .next (opAluInd .adc s)

/-- `ADC A,A` (R212). -/
def execAdcAA (s : State) : Result := .next (opAluReg .adc .a s)

/-- `SUB A,B` (R213). -/
def execSubAB (s : State) : Result := .next (opAluReg .sub .b s)

/-- `SUB A,C` (R213). -/
def execSubAC (s : State) : Result := .next (opAluReg .sub .c s)

/-- `SUB A,D` (R213). -/
def execSubAD (s : State) : Result := .next (opAluReg .sub .d s)

/-- `SUB A,E` (R213). -/
def execSubAE (s : State) : Result := .next (opAluReg .sub .e s)

/-- `SUB A,H` (R213). -/
def execSubAH (s : State) : Result := .next (opAluReg .sub .h s)

/-- `SUB A,L` (R213). -/
def execSubAL (s : State) : Result := .next (opAluReg .sub .l s)

/-- `SUB A,(HL)` (R213). -/
def execSubAIndHl (s : State) : Result := .next (opAluInd .sub s)

/-- `SUB A,A` (R213). -/
def execSubAA (s : State) : Result := .next (opAluReg .sub .a s)

/-- `SBC A,B` (R214). -/
def execSbcAB (s : State) : Result := .next (opAluReg .sbc .b s)

/-- `SBC A,C` (R214). -/
def execSbcAC (s : State) : Result := .next (opAluReg .sbc .c s)

/-- `SBC A,D` (R214). -/
def execSbcAD (s : State) : Result := .next (opAluReg .sbc .d s)

/-- `SBC A,E` (R214). -/
def execSbcAE (s : State) : Result := .next (opAluReg .sbc .e s)

/-- `SBC A,H` (R214). -/
def execSbcAH (s : State) : Result := .next (opAluReg .sbc .h s)

/-- `SBC A,L` (R214). -/
def execSbcAL (s : State) : Result := .next (opAluReg .sbc .l s)

/-- `SBC A,(HL)` (R214). -/
def execSbcAIndHl (s : State) : Result := .next (opAluInd .sbc s)

/-- `SBC A,A` (R214). -/
def execSbcAA (s : State) : Result := .next (opAluReg .sbc .a s)

/-- `AND A,B` (R215). -/
def execAndAB (s : State) : Result := .next (opAluReg .and .b s)

/-- `AND A,C` (R215). -/
def execAndAC (s : State) : Result := .next (opAluReg .and .c s)

/-- `AND A,D` (R215). -/
def execAndAD (s : State) : Result := .next (opAluReg .and .d s)

/-- `AND A,E` (R215). -/
def execAndAE (s : State) : Result := .next (opAluReg .and .e s)

/-- `AND A,H` (R215). -/
def execAndAH (s : State) : Result := .next (opAluReg .and .h s)

/-- `AND A,L` (R215). -/
def execAndAL (s : State) : Result := .next (opAluReg .and .l s)

/-- `AND A,(HL)` (R215). -/
def execAndAIndHl (s : State) : Result := .next (opAluInd .and s)

/-- `AND A,A` (R215). -/
def execAndAA (s : State) : Result := .next (opAluReg .and .a s)

/-- `XOR A,B` (R216). -/
def execXorAB (s : State) : Result := .next (opAluReg .xor .b s)

/-- `XOR A,C` (R216). -/
def execXorAC (s : State) : Result := .next (opAluReg .xor .c s)

/-- `XOR A,D` (R216). -/
def execXorAD (s : State) : Result := .next (opAluReg .xor .d s)

/-- `XOR A,E` (R216). -/
def execXorAE (s : State) : Result := .next (opAluReg .xor .e s)

/-- `XOR A,H` (R216). -/
def execXorAH (s : State) : Result := .next (opAluReg .xor .h s)

/-- `XOR A,L` (R216). -/
def execXorAL (s : State) : Result := .next (opAluReg .xor .l s)

/-- `XOR A,(HL)` (R216). -/
def execXorAIndHl (s : State) : Result := .next (opAluInd .xor s)

/-- `XOR A,A` (R216). -/
def execXorAA (s : State) : Result := .next (opAluReg .xor .a s)

/-- `OR A,B` (R217). -/
def execOrAB (s : State) : Result := .next (opAluReg .or .b s)

/-- `OR A,C` (R217). -/
def execOrAC (s : State) : Result := .next (opAluReg .or .c s)

/-- `OR A,D` (R217). -/
def execOrAD (s : State) : Result := .next (opAluReg .or .d s)

/-- `OR A,E` (R217). -/
def execOrAE (s : State) : Result := .next (opAluReg .or .e s)

/-- `OR A,H` (R217). -/
def execOrAH (s : State) : Result := .next (opAluReg .or .h s)

/-- `OR A,L` (R217). -/
def execOrAL (s : State) : Result := .next (opAluReg .or .l s)

/-- `OR A,(HL)` (R217). -/
def execOrAIndHl (s : State) : Result := .next (opAluInd .or s)

/-- `OR A,A` (R217). -/
def execOrAA (s : State) : Result := .next (opAluReg .or .a s)

/-- `CP A,B` (R218). -/
def execCpAB (s : State) : Result := .next (opAluReg .cp .b s)

/-- `CP A,C` (R218). -/
def execCpAC (s : State) : Result := .next (opAluReg .cp .c s)

/-- `CP A,D` (R218). -/
def execCpAD (s : State) : Result := .next (opAluReg .cp .d s)

/-- `CP A,E` (R218). -/
def execCpAE (s : State) : Result := .next (opAluReg .cp .e s)

/-- `CP A,H` (R218). -/
def execCpAH (s : State) : Result := .next (opAluReg .cp .h s)

/-- `CP A,L` (R218). -/
def execCpAL (s : State) : Result := .next (opAluReg .cp .l s)

/-- `CP A,(HL)` (R218). -/
def execCpAIndHl (s : State) : Result := .next (opAluInd .cp s)

/-- `CP A,A` (R218). -/
def execCpAA (s : State) : Result := .next (opAluReg .cp .a s)

/-- `ADD A,n8` (R211). -/
def execAddAN8 (n : Byte) (s : State) : Result := .next (opAluImm .add n s)

/-- `ADC A,n8` (R212). -/
def execAdcAN8 (n : Byte) (s : State) : Result := .next (opAluImm .adc n s)

/-- `SUB A,n8` (R213). -/
def execSubAN8 (n : Byte) (s : State) : Result := .next (opAluImm .sub n s)

/-- `SBC A,n8` (R214). -/
def execSbcAN8 (n : Byte) (s : State) : Result := .next (opAluImm .sbc n s)

/-- `AND A,n8` (R215). -/
def execAndAN8 (n : Byte) (s : State) : Result := .next (opAluImm .and n s)

/-- `XOR A,n8` (R216). -/
def execXorAN8 (n : Byte) (s : State) : Result := .next (opAluImm .xor n s)

/-- `OR A,n8` (R217). -/
def execOrAN8 (n : Byte) (s : State) : Result := .next (opAluImm .or n s)

/-- `CP A,n8` (R218). -/
def execCpAN8 (n : Byte) (s : State) : Result := .next (opAluImm .cp n s)

end Sys2Proof.Machine
end

