-- ==== Sys2Proof/Machine/BitClear.lean ====
section
/-! DEFINITION. `RES n` of Table B (R328, R329). -/

namespace Sys2Proof.Machine

/-- `RES n,r8`: no flag (R328). -/
def opResReg (n : Nat) (r : Reg8) (s : State) : State := s.setReg8 r (s.reg8 r &&& ~~~(bitMask n))

/-- `RES n,(HL)`: one read, then one write, even of the value read (R329). -/
def opResInd (n : Nat) (s : State) : State :=
  let (v, s1) := memRead s.hl s
  memWrite s.hl (v &&& ~~~(bitMask n)) s1

/-- `RES 0,B` (R328). -/
def execRes0B (s : State) : Result := .next (opResReg 0 .b s)

/-- `RES 0,C` (R328). -/
def execRes0C (s : State) : Result := .next (opResReg 0 .c s)

/-- `RES 0,D` (R328). -/
def execRes0D (s : State) : Result := .next (opResReg 0 .d s)

/-- `RES 0,E` (R328). -/
def execRes0E (s : State) : Result := .next (opResReg 0 .e s)

/-- `RES 0,H` (R328). -/
def execRes0H (s : State) : Result := .next (opResReg 0 .h s)

/-- `RES 0,L` (R328). -/
def execRes0L (s : State) : Result := .next (opResReg 0 .l s)

/-- `RES 0,(HL)` (R329). -/
def execRes0IndHl (s : State) : Result := .next (opResInd 0 s)

/-- `RES 0,A` (R328). -/
def execRes0A (s : State) : Result := .next (opResReg 0 .a s)

/-- `RES 1,B` (R328). -/
def execRes1B (s : State) : Result := .next (opResReg 1 .b s)

/-- `RES 1,C` (R328). -/
def execRes1C (s : State) : Result := .next (opResReg 1 .c s)

/-- `RES 1,D` (R328). -/
def execRes1D (s : State) : Result := .next (opResReg 1 .d s)

/-- `RES 1,E` (R328). -/
def execRes1E (s : State) : Result := .next (opResReg 1 .e s)

/-- `RES 1,H` (R328). -/
def execRes1H (s : State) : Result := .next (opResReg 1 .h s)

/-- `RES 1,L` (R328). -/
def execRes1L (s : State) : Result := .next (opResReg 1 .l s)

/-- `RES 1,(HL)` (R329). -/
def execRes1IndHl (s : State) : Result := .next (opResInd 1 s)

/-- `RES 1,A` (R328). -/
def execRes1A (s : State) : Result := .next (opResReg 1 .a s)

/-- `RES 2,B` (R328). -/
def execRes2B (s : State) : Result := .next (opResReg 2 .b s)

/-- `RES 2,C` (R328). -/
def execRes2C (s : State) : Result := .next (opResReg 2 .c s)

/-- `RES 2,D` (R328). -/
def execRes2D (s : State) : Result := .next (opResReg 2 .d s)

/-- `RES 2,E` (R328). -/
def execRes2E (s : State) : Result := .next (opResReg 2 .e s)

/-- `RES 2,H` (R328). -/
def execRes2H (s : State) : Result := .next (opResReg 2 .h s)

/-- `RES 2,L` (R328). -/
def execRes2L (s : State) : Result := .next (opResReg 2 .l s)

/-- `RES 2,(HL)` (R329). -/
def execRes2IndHl (s : State) : Result := .next (opResInd 2 s)

/-- `RES 2,A` (R328). -/
def execRes2A (s : State) : Result := .next (opResReg 2 .a s)

/-- `RES 3,B` (R328). -/
def execRes3B (s : State) : Result := .next (opResReg 3 .b s)

/-- `RES 3,C` (R328). -/
def execRes3C (s : State) : Result := .next (opResReg 3 .c s)

/-- `RES 3,D` (R328). -/
def execRes3D (s : State) : Result := .next (opResReg 3 .d s)

/-- `RES 3,E` (R328). -/
def execRes3E (s : State) : Result := .next (opResReg 3 .e s)

/-- `RES 3,H` (R328). -/
def execRes3H (s : State) : Result := .next (opResReg 3 .h s)

/-- `RES 3,L` (R328). -/
def execRes3L (s : State) : Result := .next (opResReg 3 .l s)

/-- `RES 3,(HL)` (R329). -/
def execRes3IndHl (s : State) : Result := .next (opResInd 3 s)

/-- `RES 3,A` (R328). -/
def execRes3A (s : State) : Result := .next (opResReg 3 .a s)

/-- `RES 4,B` (R328). -/
def execRes4B (s : State) : Result := .next (opResReg 4 .b s)

/-- `RES 4,C` (R328). -/
def execRes4C (s : State) : Result := .next (opResReg 4 .c s)

/-- `RES 4,D` (R328). -/
def execRes4D (s : State) : Result := .next (opResReg 4 .d s)

/-- `RES 4,E` (R328). -/
def execRes4E (s : State) : Result := .next (opResReg 4 .e s)

/-- `RES 4,H` (R328). -/
def execRes4H (s : State) : Result := .next (opResReg 4 .h s)

/-- `RES 4,L` (R328). -/
def execRes4L (s : State) : Result := .next (opResReg 4 .l s)

/-- `RES 4,(HL)` (R329). -/
def execRes4IndHl (s : State) : Result := .next (opResInd 4 s)

/-- `RES 4,A` (R328). -/
def execRes4A (s : State) : Result := .next (opResReg 4 .a s)

/-- `RES 5,B` (R328). -/
def execRes5B (s : State) : Result := .next (opResReg 5 .b s)

/-- `RES 5,C` (R328). -/
def execRes5C (s : State) : Result := .next (opResReg 5 .c s)

/-- `RES 5,D` (R328). -/
def execRes5D (s : State) : Result := .next (opResReg 5 .d s)

/-- `RES 5,E` (R328). -/
def execRes5E (s : State) : Result := .next (opResReg 5 .e s)

/-- `RES 5,H` (R328). -/
def execRes5H (s : State) : Result := .next (opResReg 5 .h s)

/-- `RES 5,L` (R328). -/
def execRes5L (s : State) : Result := .next (opResReg 5 .l s)

/-- `RES 5,(HL)` (R329). -/
def execRes5IndHl (s : State) : Result := .next (opResInd 5 s)

/-- `RES 5,A` (R328). -/
def execRes5A (s : State) : Result := .next (opResReg 5 .a s)

/-- `RES 6,B` (R328). -/
def execRes6B (s : State) : Result := .next (opResReg 6 .b s)

/-- `RES 6,C` (R328). -/
def execRes6C (s : State) : Result := .next (opResReg 6 .c s)

/-- `RES 6,D` (R328). -/
def execRes6D (s : State) : Result := .next (opResReg 6 .d s)

/-- `RES 6,E` (R328). -/
def execRes6E (s : State) : Result := .next (opResReg 6 .e s)

/-- `RES 6,H` (R328). -/
def execRes6H (s : State) : Result := .next (opResReg 6 .h s)

/-- `RES 6,L` (R328). -/
def execRes6L (s : State) : Result := .next (opResReg 6 .l s)

/-- `RES 6,(HL)` (R329). -/
def execRes6IndHl (s : State) : Result := .next (opResInd 6 s)

/-- `RES 6,A` (R328). -/
def execRes6A (s : State) : Result := .next (opResReg 6 .a s)

/-- `RES 7,B` (R328). -/
def execRes7B (s : State) : Result := .next (opResReg 7 .b s)

/-- `RES 7,C` (R328). -/
def execRes7C (s : State) : Result := .next (opResReg 7 .c s)

/-- `RES 7,D` (R328). -/
def execRes7D (s : State) : Result := .next (opResReg 7 .d s)

/-- `RES 7,E` (R328). -/
def execRes7E (s : State) : Result := .next (opResReg 7 .e s)

/-- `RES 7,H` (R328). -/
def execRes7H (s : State) : Result := .next (opResReg 7 .h s)

/-- `RES 7,L` (R328). -/
def execRes7L (s : State) : Result := .next (opResReg 7 .l s)

/-- `RES 7,(HL)` (R329). -/
def execRes7IndHl (s : State) : Result := .next (opResInd 7 s)

/-- `RES 7,A` (R328). -/
def execRes7A (s : State) : Result := .next (opResReg 7 .a s)

end Sys2Proof.Machine
end

