-- ==== Sys2Proof/Machine/BitSet.lean ====
section
/-! DEFINITION. `SET n` of Table B (R330, R331). -/

namespace Sys2Proof.Machine

/-- `SET n,r8`: no flag (R330). -/
def opSetReg (n : Nat) (r : Reg8) (s : State) : State := s.setReg8 r (s.reg8 r ||| bitMask n)

/-- `SET n,(HL)`: one read, then one write (R331). -/
def opSetInd (n : Nat) (s : State) : State :=
  let (v, s1) := memRead s.hl s
  memWrite s.hl (v ||| bitMask n) s1

/-- `SET 0,B` (R330). -/
def execSet0B (s : State) : Result := .next (opSetReg 0 .b s)

/-- `SET 0,C` (R330). -/
def execSet0C (s : State) : Result := .next (opSetReg 0 .c s)

/-- `SET 0,D` (R330). -/
def execSet0D (s : State) : Result := .next (opSetReg 0 .d s)

/-- `SET 0,E` (R330). -/
def execSet0E (s : State) : Result := .next (opSetReg 0 .e s)

/-- `SET 0,H` (R330). -/
def execSet0H (s : State) : Result := .next (opSetReg 0 .h s)

/-- `SET 0,L` (R330). -/
def execSet0L (s : State) : Result := .next (opSetReg 0 .l s)

/-- `SET 0,(HL)` (R331). -/
def execSet0IndHl (s : State) : Result := .next (opSetInd 0 s)

/-- `SET 0,A` (R330). -/
def execSet0A (s : State) : Result := .next (opSetReg 0 .a s)

/-- `SET 1,B` (R330). -/
def execSet1B (s : State) : Result := .next (opSetReg 1 .b s)

/-- `SET 1,C` (R330). -/
def execSet1C (s : State) : Result := .next (opSetReg 1 .c s)

/-- `SET 1,D` (R330). -/
def execSet1D (s : State) : Result := .next (opSetReg 1 .d s)

/-- `SET 1,E` (R330). -/
def execSet1E (s : State) : Result := .next (opSetReg 1 .e s)

/-- `SET 1,H` (R330). -/
def execSet1H (s : State) : Result := .next (opSetReg 1 .h s)

/-- `SET 1,L` (R330). -/
def execSet1L (s : State) : Result := .next (opSetReg 1 .l s)

/-- `SET 1,(HL)` (R331). -/
def execSet1IndHl (s : State) : Result := .next (opSetInd 1 s)

/-- `SET 1,A` (R330). -/
def execSet1A (s : State) : Result := .next (opSetReg 1 .a s)

/-- `SET 2,B` (R330). -/
def execSet2B (s : State) : Result := .next (opSetReg 2 .b s)

/-- `SET 2,C` (R330). -/
def execSet2C (s : State) : Result := .next (opSetReg 2 .c s)

/-- `SET 2,D` (R330). -/
def execSet2D (s : State) : Result := .next (opSetReg 2 .d s)

/-- `SET 2,E` (R330). -/
def execSet2E (s : State) : Result := .next (opSetReg 2 .e s)

/-- `SET 2,H` (R330). -/
def execSet2H (s : State) : Result := .next (opSetReg 2 .h s)

/-- `SET 2,L` (R330). -/
def execSet2L (s : State) : Result := .next (opSetReg 2 .l s)

/-- `SET 2,(HL)` (R331). -/
def execSet2IndHl (s : State) : Result := .next (opSetInd 2 s)

/-- `SET 2,A` (R330). -/
def execSet2A (s : State) : Result := .next (opSetReg 2 .a s)

/-- `SET 3,B` (R330). -/
def execSet3B (s : State) : Result := .next (opSetReg 3 .b s)

/-- `SET 3,C` (R330). -/
def execSet3C (s : State) : Result := .next (opSetReg 3 .c s)

/-- `SET 3,D` (R330). -/
def execSet3D (s : State) : Result := .next (opSetReg 3 .d s)

/-- `SET 3,E` (R330). -/
def execSet3E (s : State) : Result := .next (opSetReg 3 .e s)

/-- `SET 3,H` (R330). -/
def execSet3H (s : State) : Result := .next (opSetReg 3 .h s)

/-- `SET 3,L` (R330). -/
def execSet3L (s : State) : Result := .next (opSetReg 3 .l s)

/-- `SET 3,(HL)` (R331). -/
def execSet3IndHl (s : State) : Result := .next (opSetInd 3 s)

/-- `SET 3,A` (R330). -/
def execSet3A (s : State) : Result := .next (opSetReg 3 .a s)

/-- `SET 4,B` (R330). -/
def execSet4B (s : State) : Result := .next (opSetReg 4 .b s)

/-- `SET 4,C` (R330). -/
def execSet4C (s : State) : Result := .next (opSetReg 4 .c s)

/-- `SET 4,D` (R330). -/
def execSet4D (s : State) : Result := .next (opSetReg 4 .d s)

/-- `SET 4,E` (R330). -/
def execSet4E (s : State) : Result := .next (opSetReg 4 .e s)

/-- `SET 4,H` (R330). -/
def execSet4H (s : State) : Result := .next (opSetReg 4 .h s)

/-- `SET 4,L` (R330). -/
def execSet4L (s : State) : Result := .next (opSetReg 4 .l s)

/-- `SET 4,(HL)` (R331). -/
def execSet4IndHl (s : State) : Result := .next (opSetInd 4 s)

/-- `SET 4,A` (R330). -/
def execSet4A (s : State) : Result := .next (opSetReg 4 .a s)

/-- `SET 5,B` (R330). -/
def execSet5B (s : State) : Result := .next (opSetReg 5 .b s)

/-- `SET 5,C` (R330). -/
def execSet5C (s : State) : Result := .next (opSetReg 5 .c s)

/-- `SET 5,D` (R330). -/
def execSet5D (s : State) : Result := .next (opSetReg 5 .d s)

/-- `SET 5,E` (R330). -/
def execSet5E (s : State) : Result := .next (opSetReg 5 .e s)

/-- `SET 5,H` (R330). -/
def execSet5H (s : State) : Result := .next (opSetReg 5 .h s)

/-- `SET 5,L` (R330). -/
def execSet5L (s : State) : Result := .next (opSetReg 5 .l s)

/-- `SET 5,(HL)` (R331). -/
def execSet5IndHl (s : State) : Result := .next (opSetInd 5 s)

/-- `SET 5,A` (R330). -/
def execSet5A (s : State) : Result := .next (opSetReg 5 .a s)

/-- `SET 6,B` (R330). -/
def execSet6B (s : State) : Result := .next (opSetReg 6 .b s)

/-- `SET 6,C` (R330). -/
def execSet6C (s : State) : Result := .next (opSetReg 6 .c s)

/-- `SET 6,D` (R330). -/
def execSet6D (s : State) : Result := .next (opSetReg 6 .d s)

/-- `SET 6,E` (R330). -/
def execSet6E (s : State) : Result := .next (opSetReg 6 .e s)

/-- `SET 6,H` (R330). -/
def execSet6H (s : State) : Result := .next (opSetReg 6 .h s)

/-- `SET 6,L` (R330). -/
def execSet6L (s : State) : Result := .next (opSetReg 6 .l s)

/-- `SET 6,(HL)` (R331). -/
def execSet6IndHl (s : State) : Result := .next (opSetInd 6 s)

/-- `SET 6,A` (R330). -/
def execSet6A (s : State) : Result := .next (opSetReg 6 .a s)

/-- `SET 7,B` (R330). -/
def execSet7B (s : State) : Result := .next (opSetReg 7 .b s)

/-- `SET 7,C` (R330). -/
def execSet7C (s : State) : Result := .next (opSetReg 7 .c s)

/-- `SET 7,D` (R330). -/
def execSet7D (s : State) : Result := .next (opSetReg 7 .d s)

/-- `SET 7,E` (R330). -/
def execSet7E (s : State) : Result := .next (opSetReg 7 .e s)

/-- `SET 7,H` (R330). -/
def execSet7H (s : State) : Result := .next (opSetReg 7 .h s)

/-- `SET 7,L` (R330). -/
def execSet7L (s : State) : Result := .next (opSetReg 7 .l s)

/-- `SET 7,(HL)` (R331). -/
def execSet7IndHl (s : State) : Result := .next (opSetInd 7 s)

/-- `SET 7,A` (R330). -/
def execSet7A (s : State) : Result := .next (opSetReg 7 .a s)

end Sys2Proof.Machine
end

