-- ==== Sys2Proof/Machine/BitTest.lean ====
section
/-! DEFINITION. `BIT n` of Table B (R326, R327). -/

namespace Sys2Proof.Machine

/-- `BIT n,r8` (R326). -/
def opBitReg (n : Nat) (r : Reg8) (s : State) : State := bitTestFlags n (s.reg8 r) s

/-- `BIT n,(HL)`: one read and no write (R327). -/
def opBitInd (n : Nat) (s : State) : State :=
  let (v, s1) := memRead s.hl s
  bitTestFlags n v s1

/-- `BIT 0,B` (R326). -/
def execBit0B (s : State) : Result := .next (opBitReg 0 .b s)

/-- `BIT 0,C` (R326). -/
def execBit0C (s : State) : Result := .next (opBitReg 0 .c s)

/-- `BIT 0,D` (R326). -/
def execBit0D (s : State) : Result := .next (opBitReg 0 .d s)

/-- `BIT 0,E` (R326). -/
def execBit0E (s : State) : Result := .next (opBitReg 0 .e s)

/-- `BIT 0,H` (R326). -/
def execBit0H (s : State) : Result := .next (opBitReg 0 .h s)

/-- `BIT 0,L` (R326). -/
def execBit0L (s : State) : Result := .next (opBitReg 0 .l s)

/-- `BIT 0,(HL)` (R327). -/
def execBit0IndHl (s : State) : Result := .next (opBitInd 0 s)

/-- `BIT 0,A` (R326). -/
def execBit0A (s : State) : Result := .next (opBitReg 0 .a s)

/-- `BIT 1,B` (R326). -/
def execBit1B (s : State) : Result := .next (opBitReg 1 .b s)

/-- `BIT 1,C` (R326). -/
def execBit1C (s : State) : Result := .next (opBitReg 1 .c s)

/-- `BIT 1,D` (R326). -/
def execBit1D (s : State) : Result := .next (opBitReg 1 .d s)

/-- `BIT 1,E` (R326). -/
def execBit1E (s : State) : Result := .next (opBitReg 1 .e s)

/-- `BIT 1,H` (R326). -/
def execBit1H (s : State) : Result := .next (opBitReg 1 .h s)

/-- `BIT 1,L` (R326). -/
def execBit1L (s : State) : Result := .next (opBitReg 1 .l s)

/-- `BIT 1,(HL)` (R327). -/
def execBit1IndHl (s : State) : Result := .next (opBitInd 1 s)

/-- `BIT 1,A` (R326). -/
def execBit1A (s : State) : Result := .next (opBitReg 1 .a s)

/-- `BIT 2,B` (R326). -/
def execBit2B (s : State) : Result := .next (opBitReg 2 .b s)

/-- `BIT 2,C` (R326). -/
def execBit2C (s : State) : Result := .next (opBitReg 2 .c s)

/-- `BIT 2,D` (R326). -/
def execBit2D (s : State) : Result := .next (opBitReg 2 .d s)

/-- `BIT 2,E` (R326). -/
def execBit2E (s : State) : Result := .next (opBitReg 2 .e s)

/-- `BIT 2,H` (R326). -/
def execBit2H (s : State) : Result := .next (opBitReg 2 .h s)

/-- `BIT 2,L` (R326). -/
def execBit2L (s : State) : Result := .next (opBitReg 2 .l s)

/-- `BIT 2,(HL)` (R327). -/
def execBit2IndHl (s : State) : Result := .next (opBitInd 2 s)

/-- `BIT 2,A` (R326). -/
def execBit2A (s : State) : Result := .next (opBitReg 2 .a s)

/-- `BIT 3,B` (R326). -/
def execBit3B (s : State) : Result := .next (opBitReg 3 .b s)

/-- `BIT 3,C` (R326). -/
def execBit3C (s : State) : Result := .next (opBitReg 3 .c s)

/-- `BIT 3,D` (R326). -/
def execBit3D (s : State) : Result := .next (opBitReg 3 .d s)

/-- `BIT 3,E` (R326). -/
def execBit3E (s : State) : Result := .next (opBitReg 3 .e s)

/-- `BIT 3,H` (R326). -/
def execBit3H (s : State) : Result := .next (opBitReg 3 .h s)

/-- `BIT 3,L` (R326). -/
def execBit3L (s : State) : Result := .next (opBitReg 3 .l s)

/-- `BIT 3,(HL)` (R327). -/
def execBit3IndHl (s : State) : Result := .next (opBitInd 3 s)

/-- `BIT 3,A` (R326). -/
def execBit3A (s : State) : Result := .next (opBitReg 3 .a s)

/-- `BIT 4,B` (R326). -/
def execBit4B (s : State) : Result := .next (opBitReg 4 .b s)

/-- `BIT 4,C` (R326). -/
def execBit4C (s : State) : Result := .next (opBitReg 4 .c s)

/-- `BIT 4,D` (R326). -/
def execBit4D (s : State) : Result := .next (opBitReg 4 .d s)

/-- `BIT 4,E` (R326). -/
def execBit4E (s : State) : Result := .next (opBitReg 4 .e s)

/-- `BIT 4,H` (R326). -/
def execBit4H (s : State) : Result := .next (opBitReg 4 .h s)

/-- `BIT 4,L` (R326). -/
def execBit4L (s : State) : Result := .next (opBitReg 4 .l s)

/-- `BIT 4,(HL)` (R327). -/
def execBit4IndHl (s : State) : Result := .next (opBitInd 4 s)

/-- `BIT 4,A` (R326). -/
def execBit4A (s : State) : Result := .next (opBitReg 4 .a s)

/-- `BIT 5,B` (R326). -/
def execBit5B (s : State) : Result := .next (opBitReg 5 .b s)

/-- `BIT 5,C` (R326). -/
def execBit5C (s : State) : Result := .next (opBitReg 5 .c s)

/-- `BIT 5,D` (R326). -/
def execBit5D (s : State) : Result := .next (opBitReg 5 .d s)

/-- `BIT 5,E` (R326). -/
def execBit5E (s : State) : Result := .next (opBitReg 5 .e s)

/-- `BIT 5,H` (R326). -/
def execBit5H (s : State) : Result := .next (opBitReg 5 .h s)

/-- `BIT 5,L` (R326). -/
def execBit5L (s : State) : Result := .next (opBitReg 5 .l s)

/-- `BIT 5,(HL)` (R327). -/
def execBit5IndHl (s : State) : Result := .next (opBitInd 5 s)

/-- `BIT 5,A` (R326). -/
def execBit5A (s : State) : Result := .next (opBitReg 5 .a s)

/-- `BIT 6,B` (R326). -/
def execBit6B (s : State) : Result := .next (opBitReg 6 .b s)

/-- `BIT 6,C` (R326). -/
def execBit6C (s : State) : Result := .next (opBitReg 6 .c s)

/-- `BIT 6,D` (R326). -/
def execBit6D (s : State) : Result := .next (opBitReg 6 .d s)

/-- `BIT 6,E` (R326). -/
def execBit6E (s : State) : Result := .next (opBitReg 6 .e s)

/-- `BIT 6,H` (R326). -/
def execBit6H (s : State) : Result := .next (opBitReg 6 .h s)

/-- `BIT 6,L` (R326). -/
def execBit6L (s : State) : Result := .next (opBitReg 6 .l s)

/-- `BIT 6,(HL)` (R327). -/
def execBit6IndHl (s : State) : Result := .next (opBitInd 6 s)

/-- `BIT 6,A` (R326). -/
def execBit6A (s : State) : Result := .next (opBitReg 6 .a s)

/-- `BIT 7,B` (R326). -/
def execBit7B (s : State) : Result := .next (opBitReg 7 .b s)

/-- `BIT 7,C` (R326). -/
def execBit7C (s : State) : Result := .next (opBitReg 7 .c s)

/-- `BIT 7,D` (R326). -/
def execBit7D (s : State) : Result := .next (opBitReg 7 .d s)

/-- `BIT 7,E` (R326). -/
def execBit7E (s : State) : Result := .next (opBitReg 7 .e s)

/-- `BIT 7,H` (R326). -/
def execBit7H (s : State) : Result := .next (opBitReg 7 .h s)

/-- `BIT 7,L` (R326). -/
def execBit7L (s : State) : Result := .next (opBitReg 7 .l s)

/-- `BIT 7,(HL)` (R327). -/
def execBit7IndHl (s : State) : Result := .next (opBitInd 7 s)

/-- `BIT 7,A` (R326). -/
def execBit7A (s : State) : Result := .next (opBitReg 7 .a s)

end Sys2Proof.Machine
end

