-- ==== Sys2Proof/Machine/Control.lean ====
section
/-! DEFINITION. Control transfer (`45_control_flow.md`). `pc` already stands after the instruction (R28). A
taken conditional adds its surcharge to the counters (R393). -/

namespace Sys2Proof.Machine

/-- `JP cc,n16` (R267). -/
def opJpCond (cc : Cond) (n : Word) (s : State) : State := if s.cond cc then tick 1 (jumpTo n s) else s

/-- `JR e8`: from the address after the instruction (R269). -/
def opJr (e : Byte) (s : State) : State := jumpTo (s.pc + sext16 e) s

/-- `JR cc,e8` (R270). -/
def opJrCond (cc : Cond) (e : Byte) (s : State) : State := if s.cond cc then tick 1 (opJr e s) else s

/-- `push16(pc); pc <- target` (R271, R278). -/
def opCall (target : Word) (s : State) : State := jumpTo target (push16 s.pc s)

/-- `CALL cc,n16` (R272). -/
def opCallCond (cc : Cond) (n : Word) (s : State) : State := if s.cond cc then tick 3 (opCall n s) else s

/-- `RET cc` (R274). -/
def opRetCond (cc : Cond) (s : State) : State := if s.cond cc then tick 3 (returnFromCall s) else s

/-- `RST vec`: a call to a fixed address (R278). -/
def opRst (vec : Byte) (s : State) : State := opCall (zext16 vec) s

/-- `JR e8` (R269). -/
def execJrE8 (e : Byte) (s : State) : Result := .next (opJr e s)

/-- `JR NZ,e8` (R270). -/
def execJrNzE8 (e : Byte) (s : State) : Result := .next (opJrCond .nz e s)

/-- `JR Z,e8` (R270). -/
def execJrZE8 (e : Byte) (s : State) : Result := .next (opJrCond .z e s)

/-- `JR NC,e8` (R270). -/
def execJrNcE8 (e : Byte) (s : State) : Result := .next (opJrCond .nc e s)

/-- `JR C,e8` (R270). -/
def execJrCE8 (e : Byte) (s : State) : Result := .next (opJrCond .c e s)

/-- `RET NZ` (R274). -/
def execRetNz (s : State) : Result := .next (opRetCond .nz s)

/-- `JP NZ,n16` (R267). -/
def execJpNzN16 (n : Word) (s : State) : Result := .next (opJpCond .nz n s)

/-- `JP n16` (R266). -/
def execJpN16 (n : Word) (s : State) : Result := .next (jumpTo n s)

/-- `CALL NZ,n16` (R272). -/
def execCallNzN16 (n : Word) (s : State) : Result := .next (opCallCond .nz n s)

/-- `RST 0x00` (R278). -/
def execRst00 (s : State) : Result := .next (opRst 0x00 s)

/-- `RET Z` (R274). -/
def execRetZ (s : State) : Result := .next (opRetCond .z s)

/-- `RET` (R273). -/
def execRet (s : State) : Result := .next (returnFromCall s)

/-- `JP Z,n16` (R267). -/
def execJpZN16 (n : Word) (s : State) : Result := .next (opJpCond .z n s)

/-- `CALL Z,n16` (R272). -/
def execCallZN16 (n : Word) (s : State) : Result := .next (opCallCond .z n s)

/-- `CALL n16` (R271). -/
def execCallN16 (n : Word) (s : State) : Result := .next (opCall n s)

/-- `RST 0x08` (R278). -/
def execRst08 (s : State) : Result := .next (opRst 0x08 s)

/-- `RET NC` (R274). -/
def execRetNc (s : State) : Result := .next (opRetCond .nc s)

/-- `JP NC,n16` (R267). -/
def execJpNcN16 (n : Word) (s : State) : Result := .next (opJpCond .nc n s)

/-- `CALL NC,n16` (R272). -/
def execCallNcN16 (n : Word) (s : State) : Result := .next (opCallCond .nc n s)

/-- `RST 0x10` (R278). -/
def execRst10 (s : State) : Result := .next (opRst 0x10 s)

/-- `RET C` (R274). -/
def execRetC (s : State) : Result := .next (opRetCond .c s)

/-- `RETI` (R275). -/
def execReti (s : State) : Result := .next (returnFromInterrupt s)

/-- `JP C,n16` (R267). -/
def execJpCN16 (n : Word) (s : State) : Result := .next (opJpCond .c n s)

/-- `CALL C,n16` (R272). -/
def execCallCN16 (n : Word) (s : State) : Result := .next (opCallCond .c n s)

/-- `RST 0x18` (R278). -/
def execRst18 (s : State) : Result := .next (opRst 0x18 s)

/-- `RST 0x20` (R278). -/
def execRst20 (s : State) : Result := .next (opRst 0x20 s)

/-- `JP HL` (R268). -/
def execJpHl (s : State) : Result := .next (jumpTo s.hl s)

/-- `RST 0x28` (R278). -/
def execRst28 (s : State) : Result := .next (opRst 0x28 s)

/-- `RST 0x30` (R278). -/
def execRst30 (s : State) : Result := .next (opRst 0x30 s)

/-- `RST 0x38` (R278). -/
def execRst38 (s : State) : Result := .next (opRst 0x38 s)

end Sys2Proof.Machine
end

