-- ==== Sys2Proof/Machine/Load16.lean ====
section
/-! DEFINITION. The 16-bit loads and the stack (`42_load16_stack.md`). -/

namespace Sys2Proof.Machine

/-- `RR <- imm16()` (R191). -/
def opLdPairImm (r : Reg16) (n : Word) (s : State) : State := s.setReg16 r n

/-- `push16(RR)` (R194, R195). -/
def opPushPair (r : StackReg) (s : State) : State := push16 (s.stackReg r) s

/-- `RR <- pop16()` (R196, R197). -/
def opPopPair (r : StackReg) (s : State) : State :=
  let (w, s1) := pop16 s
  s1.setStackReg r w

/-- `LD BC,n16` (R191). -/
def execLdBcN16 (n : Word) (s : State) : Result := .next (opLdPairImm .bc n s)

/-- `LD (n16),SP` (R192). -/
def execLdIndN16Sp (n : Word) (s : State) : Result := .next (memWrite16 n s.sp s)

/-- `LD DE,n16` (R191). -/
def execLdDeN16 (n : Word) (s : State) : Result := .next (opLdPairImm .de n s)

/-- `LD HL,n16` (R191). -/
def execLdHlN16 (n : Word) (s : State) : Result := .next (opLdPairImm .hl n s)

/-- `LD SP,n16` (R191). -/
def execLdSpN16 (n : Word) (s : State) : Result := .next (opLdPairImm .sp n s)

/-- `POP BC` (R196). -/
def execPopBc (s : State) : Result := .next (opPopPair .bc s)

/-- `PUSH BC` (R194). -/
def execPushBc (s : State) : Result := .next (opPushPair .bc s)

/-- `POP DE` (R196). -/
def execPopDe (s : State) : Result := .next (opPopPair .de s)

/-- `PUSH DE` (R194). -/
def execPushDe (s : State) : Result := .next (opPushPair .de s)

/-- `POP HL` (R196). -/
def execPopHl (s : State) : Result := .next (opPopPair .hl s)

/-- `PUSH HL` (R194). -/
def execPushHl (s : State) : Result := .next (opPushPair .hl s)

/-- `POP AF` (R197). -/
def execPopAf (s : State) : Result := .next (opPopPair .af s)

/-- `PUSH AF` (R195). -/
def execPushAf (s : State) : Result := .next (opPushPair .af s)

/-- `LD SP,HL` (R193). -/
def execLdSpHl (s : State) : Result := .next { s with sp := s.hl }

end Sys2Proof.Machine
end

