-- ==== Sys2Proof/Machine/Load8.lean ====
section
/-! DEFINITION. The 8-bit loads (`41_load8.md`). None of them writes a flag (R160). -/

namespace Sys2Proof.Machine

/-- `R <- R'` (R161). -/
def opLdRegReg (dst src : Reg8) (s : State) : State := s.setReg8 dst (s.reg8 src)

/-- `R <- imm8()` (R162). -/
def opLdRegImm (dst : Reg8) (n : Byte) (s : State) : State := s.setReg8 dst n

/-- `R <- MemRead(HL, 1)`: the address is the old `HL` (R163). -/
def opLdRegInd (dst : Reg8) (s : State) : State :=
  let (v, s1) := memRead s.hl s
  s1.setReg8 dst v

/-- `MemWrite(HL, 1, R)` (R164). -/
def opLdIndReg (src : Reg8) (s : State) : State := memWrite s.hl (s.reg8 src) s

/-- `A <- MemRead(addr, 1)` (R166, R167, R170, R172, R174, R178, R179). -/
def opLoadA (addr : Word) (s : State) : State :=
  let (v, s1) := memRead addr s
  { s1 with a := v }

/-- `A <- MemRead(rr, 1)` for a register pair (R166, R167). -/
def opLoadAIndPair (r : Reg16) (s : State) : State := opLoadA (s.reg16 r) s

/-- `MemWrite(rr, 1, A)` for a register pair (R168, R169). -/
def opStoreAIndPair (r : Reg16) (s : State) : State := memWrite (s.reg16 r) s.a s

/-- `LD (BC),A` (R168). -/
def execLdIndBcA (s : State) : Result := .next (opStoreAIndPair .bc s)

/-- `LD B,n8` (R162). -/
def execLdBN8 (n : Byte) (s : State) : Result := .next (opLdRegImm .b n s)

/-- `LD A,(BC)` (R166). -/
def execLdAIndBc (s : State) : Result := .next (opLoadAIndPair .bc s)

/-- `LD C,n8` (R162). -/
def execLdCN8 (n : Byte) (s : State) : Result := .next (opLdRegImm .c n s)

/-- `LD (DE),A` (R169). -/
def execLdIndDeA (s : State) : Result := .next (opStoreAIndPair .de s)

/-- `LD D,n8` (R162). -/
def execLdDN8 (n : Byte) (s : State) : Result := .next (opLdRegImm .d n s)

/-- `LD A,(DE)` (R167). -/
def execLdAIndDe (s : State) : Result := .next (opLoadAIndPair .de s)

/-- `LD E,n8` (R162). -/
def execLdEN8 (n : Byte) (s : State) : Result := .next (opLdRegImm .e n s)

/-- `LD (HL+),A` (R176). -/
def execLdIndHliA (s : State) : Result := .next ((memWrite s.hl s.a s).setReg16 .hl (s.hl + 1))

/-- `LD H,n8` (R162). -/
def execLdHN8 (n : Byte) (s : State) : Result := .next (opLdRegImm .h n s)

/-- `LD A,(HL+)` (R178). -/
def execLdAIndHli (s : State) : Result := .next ((opLoadA s.hl s).setReg16 .hl (s.hl + 1))

/-- `LD L,n8` (R162). -/
def execLdLN8 (n : Byte) (s : State) : Result := .next (opLdRegImm .l n s)

/-- `LD (HL-),A` (R177). -/
def execLdIndHldA (s : State) : Result := .next ((memWrite s.hl s.a s).setReg16 .hl (s.hl - 1))

/-- `LD (HL),n8` (R165). -/
def execLdIndHlN8 (n : Byte) (s : State) : Result := .next (memWrite s.hl n s)

/-- `LD A,(HL-)` (R179). -/
def execLdAIndHld (s : State) : Result := .next ((opLoadA s.hl s).setReg16 .hl (s.hl - 1))

/-- `LD A,n8` (R162). -/
def execLdAN8 (n : Byte) (s : State) : Result := .next (opLdRegImm .a n s)

/-- `LD B,B` (R161). -/
def execLdBB (s : State) : Result := .next (opLdRegReg .b .b s)

/-- `LD B,C` (R161). -/
def execLdBC (s : State) : Result := .next (opLdRegReg .b .c s)

/-- `LD B,D` (R161). -/
def execLdBD (s : State) : Result := .next (opLdRegReg .b .d s)

/-- `LD B,E` (R161). -/
def execLdBE (s : State) : Result := .next (opLdRegReg .b .e s)

/-- `LD B,H` (R161). -/
def execLdBH (s : State) : Result := .next (opLdRegReg .b .h s)

/-- `LD B,L` (R161). -/
def execLdBL (s : State) : Result := .next (opLdRegReg .b .l s)

/-- `LD B,(HL)` (R163). -/
def execLdBIndHl (s : State) : Result := .next (opLdRegInd .b s)

/-- `LD B,A` (R161). -/
def execLdBA (s : State) : Result := .next (opLdRegReg .b .a s)

/-- `LD C,B` (R161). -/
def execLdCB (s : State) : Result := .next (opLdRegReg .c .b s)

/-- `LD C,C` (R161). -/
def execLdCC (s : State) : Result := .next (opLdRegReg .c .c s)

/-- `LD C,D` (R161). -/
def execLdCD (s : State) : Result := .next (opLdRegReg .c .d s)

/-- `LD C,E` (R161). -/
def execLdCE (s : State) : Result := .next (opLdRegReg .c .e s)

/-- `LD C,H` (R161). -/
def execLdCH (s : State) : Result := .next (opLdRegReg .c .h s)

/-- `LD C,L` (R161). -/
def execLdCL (s : State) : Result := .next (opLdRegReg .c .l s)

/-- `LD C,(HL)` (R163). -/
def execLdCIndHl (s : State) : Result := .next (opLdRegInd .c s)

/-- `LD C,A` (R161). -/
def execLdCA (s : State) : Result := .next (opLdRegReg .c .a s)

/-- `LD D,B` (R161). -/
def execLdDB (s : State) : Result := .next (opLdRegReg .d .b s)

/-- `LD D,C` (R161). -/
def execLdDC (s : State) : Result := .next (opLdRegReg .d .c s)

/-- `LD D,D` (R161). -/
def execLdDD (s : State) : Result := .next (opLdRegReg .d .d s)

/-- `LD D,E` (R161). -/
def execLdDE (s : State) : Result := .next (opLdRegReg .d .e s)

/-- `LD D,H` (R161). -/
def execLdDH (s : State) : Result := .next (opLdRegReg .d .h s)

/-- `LD D,L` (R161). -/
def execLdDL (s : State) : Result := .next (opLdRegReg .d .l s)

/-- `LD D,(HL)` (R163). -/
def execLdDIndHl (s : State) : Result := .next (opLdRegInd .d s)

/-- `LD D,A` (R161). -/
def execLdDA (s : State) : Result := .next (opLdRegReg .d .a s)

/-- `LD E,B` (R161). -/
def execLdEB (s : State) : Result := .next (opLdRegReg .e .b s)

/-- `LD E,C` (R161). -/
def execLdEC (s : State) : Result := .next (opLdRegReg .e .c s)

/-- `LD E,D` (R161). -/
def execLdED (s : State) : Result := .next (opLdRegReg .e .d s)

/-- `LD E,E` (R161). -/
def execLdEE (s : State) : Result := .next (opLdRegReg .e .e s)

/-- `LD E,H` (R161). -/
def execLdEH (s : State) : Result := .next (opLdRegReg .e .h s)

/-- `LD E,L` (R161). -/
def execLdEL (s : State) : Result := .next (opLdRegReg .e .l s)

/-- `LD E,(HL)` (R163). -/
def execLdEIndHl (s : State) : Result := .next (opLdRegInd .e s)

/-- `LD E,A` (R161). -/
def execLdEA (s : State) : Result := .next (opLdRegReg .e .a s)

/-- `LD H,B` (R161). -/
def execLdHB (s : State) : Result := .next (opLdRegReg .h .b s)

/-- `LD H,C` (R161). -/
def execLdHC (s : State) : Result := .next (opLdRegReg .h .c s)

/-- `LD H,D` (R161). -/
def execLdHD (s : State) : Result := .next (opLdRegReg .h .d s)

/-- `LD H,E` (R161). -/
def execLdHE (s : State) : Result := .next (opLdRegReg .h .e s)

/-- `LD H,H` (R161). -/
def execLdHH (s : State) : Result := .next (opLdRegReg .h .h s)

/-- `LD H,L` (R161). -/
def execLdHL (s : State) : Result := .next (opLdRegReg .h .l s)

/-- `LD H,(HL)` (R163). -/
def execLdHIndHl (s : State) : Result := .next (opLdRegInd .h s)

/-- `LD H,A` (R161). -/
def execLdHA (s : State) : Result := .next (opLdRegReg .h .a s)

/-- `LD L,B` (R161). -/
def execLdLB (s : State) : Result := .next (opLdRegReg .l .b s)

/-- `LD L,C` (R161). -/
def execLdLC (s : State) : Result := .next (opLdRegReg .l .c s)

/-- `LD L,D` (R161). -/
def execLdLD (s : State) : Result := .next (opLdRegReg .l .d s)

/-- `LD L,E` (R161). -/
def execLdLE (s : State) : Result := .next (opLdRegReg .l .e s)

/-- `LD L,H` (R161). -/
def execLdLH (s : State) : Result := .next (opLdRegReg .l .h s)

/-- `LD L,L` (R161). -/
def execLdLL (s : State) : Result := .next (opLdRegReg .l .l s)

/-- `LD L,(HL)` (R163). -/
def execLdLIndHl (s : State) : Result := .next (opLdRegInd .l s)

/-- `LD L,A` (R161). -/
def execLdLA (s : State) : Result := .next (opLdRegReg .l .a s)

/-- `LD (HL),B` (R164). -/
def execLdIndHlB (s : State) : Result := .next (opLdIndReg .b s)

/-- `LD (HL),C` (R164). -/
def execLdIndHlC (s : State) : Result := .next (opLdIndReg .c s)

/-- `LD (HL),D` (R164). -/
def execLdIndHlD (s : State) : Result := .next (opLdIndReg .d s)

/-- `LD (HL),E` (R164). -/
def execLdIndHlE (s : State) : Result := .next (opLdIndReg .e s)

/-- `LD (HL),H` (R164). -/
def execLdIndHlH (s : State) : Result := .next (opLdIndReg .h s)

/-- `LD (HL),L` (R164). -/
def execLdIndHlL (s : State) : Result := .next (opLdIndReg .l s)

/-- `LD (HL),A` (R164). -/
def execLdIndHlA (s : State) : Result := .next (opLdIndReg .a s)

/-- `LD A,B` (R161). -/
def execLdAB (s : State) : Result := .next (opLdRegReg .a .b s)

/-- `LD A,C` (R161). -/
def execLdAC (s : State) : Result := .next (opLdRegReg .a .c s)

/-- `LD A,D` (R161). -/
def execLdAD (s : State) : Result := .next (opLdRegReg .a .d s)

/-- `LD A,E` (R161). -/
def execLdAE (s : State) : Result := .next (opLdRegReg .a .e s)

/-- `LD A,H` (R161). -/
def execLdAH (s : State) : Result := .next (opLdRegReg .a .h s)

/-- `LD A,L` (R161). -/
def execLdAL (s : State) : Result := .next (opLdRegReg .a .l s)

/-- `LD A,(HL)` (R163). -/
def execLdAIndHl (s : State) : Result := .next (opLdRegInd .a s)

/-- `LD A,A` (R161). -/
def execLdAA (s : State) : Result := .next (opLdRegReg .a .a s)

/-- `LDH (n8),A` (R173). -/
def execLdhIndN8A (n : Byte) (s : State) : Result := .next (memWrite (highPage n) s.a s)

/-- `LDH (C),A` (R175). -/
def execLdhIndCA (s : State) : Result := .next (memWrite (highPage s.c) s.a s)

/-- `LD (n16),A` (R171). -/
def execLdIndN16A (n : Word) (s : State) : Result := .next (memWrite n s.a s)

/-- `LDH A,(n8)` (R172). -/
def execLdhAIndN8 (n : Byte) (s : State) : Result := .next (opLoadA (highPage n) s)

/-- `LDH A,(C)` (R174). -/
def execLdhAIndC (s : State) : Result := .next (opLoadA (highPage s.c) s)

/-- `LD A,(n16)` (R170). -/
def execLdAIndN16 (n : Word) (s : State) : Result := .next (opLoadA n s)

end Sys2Proof.Machine
end

