-- ==== Sys2Proof/Machine/Rotate.lean ====
section
/-! DEFINITION. The rotates of `A`, and the rotates, shifts and swap of Table B (`47_rotate_shift_bit.md`). -/

namespace Sys2Proof.Machine

/-- A short rotate of `A`: `Z` is 0 whatever the result (R304). -/
def opRotateA (op : ShiftOp) (s : State) : State :=
  let r := shifted op s.a s.flagC
  { s with a := r.1 }.setFlags false false false r.2

/-- A rotate, shift or swap of a register (R309). -/
def opShiftReg (op : ShiftOp) (reg : Reg8) (s : State) : State :=
  let r := shifted op (s.reg8 reg) s.flagC
  (shiftFlags r.1 r.2 s).setReg8 reg r.1

/-- A rotate, shift or swap of the byte at `HL`: one read, then one write (R309). -/
def opShiftInd (op : ShiftOp) (s : State) : State :=
  let (v, s1) := memRead s.hl s
  let r := shifted op v s.flagC
  shiftFlags r.1 r.2 (memWrite s.hl r.1 s1)

/-- `RLCA` (R305). -/
def execRlca (s : State) : Result := .next (opRotateA .rlc s)

/-- `RRCA` (R306). -/
def execRrca (s : State) : Result := .next (opRotateA .rrc s)

/-- `RLA` (R307). -/
def execRla (s : State) : Result := .next (opRotateA .rl s)

/-- `RRA` (R308). -/
def execRra (s : State) : Result := .next (opRotateA .rr s)

/-- `RLC B` (R310). -/
def execRlcB (s : State) : Result := .next (opShiftReg .rlc .b s)

/-- `RLC C` (R310). -/
def execRlcC (s : State) : Result := .next (opShiftReg .rlc .c s)

/-- `RLC D` (R310). -/
def execRlcD (s : State) : Result := .next (opShiftReg .rlc .d s)

/-- `RLC E` (R310). -/
def execRlcE (s : State) : Result := .next (opShiftReg .rlc .e s)

/-- `RLC H` (R310). -/
def execRlcH (s : State) : Result := .next (opShiftReg .rlc .h s)

/-- `RLC L` (R310). -/
def execRlcL (s : State) : Result := .next (opShiftReg .rlc .l s)

/-- `RLC (HL)` (R311). -/
def execRlcIndHl (s : State) : Result := .next (opShiftInd .rlc s)

/-- `RLC A` (R310). -/
def execRlcA (s : State) : Result := .next (opShiftReg .rlc .a s)

/-- `RRC B` (R312). -/
def execRrcB (s : State) : Result := .next (opShiftReg .rrc .b s)

/-- `RRC C` (R312). -/
def execRrcC (s : State) : Result := .next (opShiftReg .rrc .c s)

/-- `RRC D` (R312). -/
def execRrcD (s : State) : Result := .next (opShiftReg .rrc .d s)

/-- `RRC E` (R312). -/
def execRrcE (s : State) : Result := .next (opShiftReg .rrc .e s)

/-- `RRC H` (R312). -/
def execRrcH (s : State) : Result := .next (opShiftReg .rrc .h s)

/-- `RRC L` (R312). -/
def execRrcL (s : State) : Result := .next (opShiftReg .rrc .l s)

/-- `RRC (HL)` (R313). -/
def execRrcIndHl (s : State) : Result := .next (opShiftInd .rrc s)

/-- `RRC A` (R312). -/
def execRrcA (s : State) : Result := .next (opShiftReg .rrc .a s)

/-- `RL B` (R314). -/
def execRlB (s : State) : Result := .next (opShiftReg .rl .b s)

/-- `RL C` (R314). -/
def execRlC (s : State) : Result := .next (opShiftReg .rl .c s)

/-- `RL D` (R314). -/
def execRlD (s : State) : Result := .next (opShiftReg .rl .d s)

/-- `RL E` (R314). -/
def execRlE (s : State) : Result := .next (opShiftReg .rl .e s)

/-- `RL H` (R314). -/
def execRlH (s : State) : Result := .next (opShiftReg .rl .h s)

/-- `RL L` (R314). -/
def execRlL (s : State) : Result := .next (opShiftReg .rl .l s)

/-- `RL (HL)` (R315). -/
def execRlIndHl (s : State) : Result := .next (opShiftInd .rl s)

/-- `RL A` (R314). -/
def execRlA (s : State) : Result := .next (opShiftReg .rl .a s)

/-- `RR B` (R316). -/
def execRrB (s : State) : Result := .next (opShiftReg .rr .b s)

/-- `RR C` (R316). -/
def execRrC (s : State) : Result := .next (opShiftReg .rr .c s)

/-- `RR D` (R316). -/
def execRrD (s : State) : Result := .next (opShiftReg .rr .d s)

/-- `RR E` (R316). -/
def execRrE (s : State) : Result := .next (opShiftReg .rr .e s)

/-- `RR H` (R316). -/
def execRrH (s : State) : Result := .next (opShiftReg .rr .h s)

/-- `RR L` (R316). -/
def execRrL (s : State) : Result := .next (opShiftReg .rr .l s)

/-- `RR (HL)` (R317). -/
def execRrIndHl (s : State) : Result := .next (opShiftInd .rr s)

/-- `RR A` (R316). -/
def execRrA (s : State) : Result := .next (opShiftReg .rr .a s)

/-- `SLA B` (R318). -/
def execSlaB (s : State) : Result := .next (opShiftReg .sla .b s)

/-- `SLA C` (R318). -/
def execSlaC (s : State) : Result := .next (opShiftReg .sla .c s)

/-- `SLA D` (R318). -/
def execSlaD (s : State) : Result := .next (opShiftReg .sla .d s)

/-- `SLA E` (R318). -/
def execSlaE (s : State) : Result := .next (opShiftReg .sla .e s)

/-- `SLA H` (R318). -/
def execSlaH (s : State) : Result := .next (opShiftReg .sla .h s)

/-- `SLA L` (R318). -/
def execSlaL (s : State) : Result := .next (opShiftReg .sla .l s)

/-- `SLA (HL)` (R319). -/
def execSlaIndHl (s : State) : Result := .next (opShiftInd .sla s)

/-- `SLA A` (R318). -/
def execSlaA (s : State) : Result := .next (opShiftReg .sla .a s)

/-- `SRA B` (R320). -/
def execSraB (s : State) : Result := .next (opShiftReg .sra .b s)

/-- `SRA C` (R320). -/
def execSraC (s : State) : Result := .next (opShiftReg .sra .c s)

/-- `SRA D` (R320). -/
def execSraD (s : State) : Result := .next (opShiftReg .sra .d s)

/-- `SRA E` (R320). -/
def execSraE (s : State) : Result := .next (opShiftReg .sra .e s)

/-- `SRA H` (R320). -/
def execSraH (s : State) : Result := .next (opShiftReg .sra .h s)

/-- `SRA L` (R320). -/
def execSraL (s : State) : Result := .next (opShiftReg .sra .l s)

/-- `SRA (HL)` (R321). -/
def execSraIndHl (s : State) : Result := .next (opShiftInd .sra s)

/-- `SRA A` (R320). -/
def execSraA (s : State) : Result := .next (opShiftReg .sra .a s)

/-- `SWAP B` (R324). -/
def execSwapB (s : State) : Result := .next (opShiftReg .swap .b s)

/-- `SWAP C` (R324). -/
def execSwapC (s : State) : Result := .next (opShiftReg .swap .c s)

/-- `SWAP D` (R324). -/
def execSwapD (s : State) : Result := .next (opShiftReg .swap .d s)

/-- `SWAP E` (R324). -/
def execSwapE (s : State) : Result := .next (opShiftReg .swap .e s)

/-- `SWAP H` (R324). -/
def execSwapH (s : State) : Result := .next (opShiftReg .swap .h s)

/-- `SWAP L` (R324). -/
def execSwapL (s : State) : Result := .next (opShiftReg .swap .l s)

/-- `SWAP (HL)` (R325). -/
def execSwapIndHl (s : State) : Result := .next (opShiftInd .swap s)

/-- `SWAP A` (R324). -/
def execSwapA (s : State) : Result := .next (opShiftReg .swap .a s)

/-- `SRL B` (R322). -/
def execSrlB (s : State) : Result := .next (opShiftReg .srl .b s)

/-- `SRL C` (R322). -/
def execSrlC (s : State) : Result := .next (opShiftReg .srl .c s)

/-- `SRL D` (R322). -/
def execSrlD (s : State) : Result := .next (opShiftReg .srl .d s)

/-- `SRL E` (R322). -/
def execSrlE (s : State) : Result := .next (opShiftReg .srl .e s)

/-- `SRL H` (R322). -/
def execSrlH (s : State) : Result := .next (opShiftReg .srl .h s)

/-- `SRL L` (R322). -/
def execSrlL (s : State) : Result := .next (opShiftReg .srl .l s)

/-- `SRL (HL)` (R323). -/
def execSrlIndHl (s : State) : Result := .next (opShiftInd .srl s)

/-- `SRL A` (R322). -/
def execSrlA (s : State) : Result := .next (opShiftReg .srl .a s)

end Sys2Proof.Machine
end

