-- ==== Sys2Proof/WellFormed.lean ====
section
/-! DEFINITION. Which terms are instructions. Every immediate is a bit vector of its encoded width, so the one thing
to check is that the row is an instruction at all (R107, R108, R296). -/

namespace Sys2Proof

/-- The row is one of the eleven illegal first bytes (R107, R295). -/
def Instr.isIllegal (i : Instr) : Bool :=
  match i with
  | .illegalD3 => true
  | .illegalDB => true
  | .illegalDD => true
  | .illegalE3 => true
  | .illegalE4 => true
  | .illegalEB => true
  | .illegalEC => true
  | .illegalED => true
  | .illegalF4 => true
  | .illegalFC => true
  | .illegalFD => true
  | _ => false

/-- The row is the prefix byte, which is never an instruction by itself (R296). -/
def Instr.isPrefixByte (i : Instr) : Bool :=
  match i with
  | .prefixCb => true
  | _ => false

/-- The term is an instruction of the core: neither the prefix byte nor an illegal byte. -/
def Instr.wf (i : Instr) : Bool := !i.isIllegal && !i.isPrefixByte

end Sys2Proof
end

