-- ==== Sys2Proof/Decode.lean ====
section
/-! DEFINITION. From bytes to instructions and back (`30_encoding.md`). Table A stands as the grid of R105, one row per
high nibble, and Table B in the same form (R106). The encoder is written from the opcode column. -/

namespace Sys2Proof

/-- What Table A holds at a first byte: an instruction with the operand bytes that follow it, or the prefix (R91). -/
inductive Entry where
  | plain (i : Instr)
  | byteOperand (f : Byte → Instr)
  | wordOperand (f : Word → Instr)
  | prefixByte

namespace Decoder

/-- Table A, row 0x. -/
def rowA0 : List Entry :=
  [
    .plain .nop, .wordOperand .ldBcN16, .plain .ldIndBcA, .plain .incBc,
    .plain .incB, .plain .decB, .byteOperand .ldBN8, .plain .rlca,
    .wordOperand .ldIndN16Sp, .plain .addHlBc, .plain .ldAIndBc, .plain .decBc,
    .plain .incC, .plain .decC, .byteOperand .ldCN8, .plain .rrca
  ]

/-- Table A, row 1x. -/
def rowA1 : List Entry :=
  [
    .byteOperand .stop, .wordOperand .ldDeN16, .plain .ldIndDeA, .plain .incDe,
    .plain .incD, .plain .decD, .byteOperand .ldDN8, .plain .rla,
    .byteOperand .jrE8, .plain .addHlDe, .plain .ldAIndDe, .plain .decDe,
    .plain .incE, .plain .decE, .byteOperand .ldEN8, .plain .rra
  ]

/-- Table A, row 2x. -/
def rowA2 : List Entry :=
  [
    .byteOperand .jrNzE8, .wordOperand .ldHlN16, .plain .ldIndHliA, .plain .incHl,
    .plain .incH, .plain .decH, .byteOperand .ldHN8, .plain .daa,
    .byteOperand .jrZE8, .plain .addHlHl, .plain .ldAIndHli, .plain .decHl,
    .plain .incL, .plain .decL, .byteOperand .ldLN8, .plain .cpl
  ]

/-- Table A, row 3x. -/
def rowA3 : List Entry :=
  [
    .byteOperand .jrNcE8, .wordOperand .ldSpN16, .plain .ldIndHldA, .plain .incSp,
    .plain .incIndHl, .plain .decIndHl, .byteOperand .ldIndHlN8, .plain .scf,
    .byteOperand .jrCE8, .plain .addHlSp, .plain .ldAIndHld, .plain .decSp,
    .plain .incA, .plain .decA, .byteOperand .ldAN8, .plain .ccf
  ]

/-- Table A, row 4x. -/
def rowA4 : List Entry :=
  [
    .plain .ldBB, .plain .ldBC, .plain .ldBD, .plain .ldBE,
    .plain .ldBH, .plain .ldBL, .plain .ldBIndHl, .plain .ldBA,
    .plain .ldCB, .plain .ldCC, .plain .ldCD, .plain .ldCE,
    .plain .ldCH, .plain .ldCL, .plain .ldCIndHl, .plain .ldCA
  ]

/-- Table A, row 5x. -/
def rowA5 : List Entry :=
  [
    .plain .ldDB, .plain .ldDC, .plain .ldDD, .plain .ldDE,
    .plain .ldDH, .plain .ldDL, .plain .ldDIndHl, .plain .ldDA,
    .plain .ldEB, .plain .ldEC, .plain .ldED, .plain .ldEE,
    .plain .ldEH, .plain .ldEL, .plain .ldEIndHl, .plain .ldEA
  ]

/-- Table A, row 6x. -/
def rowA6 : List Entry :=
  [
    .plain .ldHB, .plain .ldHC, .plain .ldHD, .plain .ldHE,
    .plain .ldHH, .plain .ldHL, .plain .ldHIndHl, .plain .ldHA,
    .plain .ldLB, .plain .ldLC, .plain .ldLD, .plain .ldLE,
    .plain .ldLH, .plain .ldLL, .plain .ldLIndHl, .plain .ldLA
  ]

/-- Table A, row 7x. -/
def rowA7 : List Entry :=
  [
    .plain .ldIndHlB, .plain .ldIndHlC, .plain .ldIndHlD, .plain .ldIndHlE,
    .plain .ldIndHlH, .plain .ldIndHlL, .plain .halt, .plain .ldIndHlA,
    .plain .ldAB, .plain .ldAC, .plain .ldAD, .plain .ldAE,
    .plain .ldAH, .plain .ldAL, .plain .ldAIndHl, .plain .ldAA
  ]

/-- Table A, row 8x. -/
def rowA8 : List Entry :=
  [
    .plain .addAB, .plain .addAC, .plain .addAD, .plain .addAE,
    .plain .addAH, .plain .addAL, .plain .addAIndHl, .plain .addAA,
    .plain .adcAB, .plain .adcAC, .plain .adcAD, .plain .adcAE,
    .plain .adcAH, .plain .adcAL, .plain .adcAIndHl, .plain .adcAA
  ]

/-- Table A, row 9x. -/
def rowA9 : List Entry :=
  [
    .plain .subAB, .plain .subAC, .plain .subAD, .plain .subAE,
    .plain .subAH, .plain .subAL, .plain .subAIndHl, .plain .subAA,
    .plain .sbcAB, .plain .sbcAC, .plain .sbcAD, .plain .sbcAE,
    .plain .sbcAH, .plain .sbcAL, .plain .sbcAIndHl, .plain .sbcAA
  ]

/-- Table A, row Ax. -/
def rowAA : List Entry :=
  [
    .plain .andAB, .plain .andAC, .plain .andAD, .plain .andAE,
    .plain .andAH, .plain .andAL, .plain .andAIndHl, .plain .andAA,
    .plain .xorAB, .plain .xorAC, .plain .xorAD, .plain .xorAE,
    .plain .xorAH, .plain .xorAL, .plain .xorAIndHl, .plain .xorAA
  ]

/-- Table A, row Bx. -/
def rowAB : List Entry :=
  [
    .plain .orAB, .plain .orAC, .plain .orAD, .plain .orAE,
    .plain .orAH, .plain .orAL, .plain .orAIndHl, .plain .orAA,
    .plain .cpAB, .plain .cpAC, .plain .cpAD, .plain .cpAE,
    .plain .cpAH, .plain .cpAL, .plain .cpAIndHl, .plain .cpAA
  ]

/-- Table A, row Cx. -/
def rowAC : List Entry :=
  [
    .plain .retNz, .plain .popBc, .wordOperand .jpNzN16, .wordOperand .jpN16,
    .wordOperand .callNzN16, .plain .pushBc, .byteOperand .addAN8, .plain .rst00,
    .plain .retZ, .plain .ret, .wordOperand .jpZN16, .prefixByte,
    .wordOperand .callZN16, .wordOperand .callN16, .byteOperand .adcAN8, .plain .rst08
  ]

/-- Table A, row Dx. -/
def rowAD : List Entry :=
  [
    .plain .retNc, .plain .popDe, .wordOperand .jpNcN16, .plain .illegalD3,
    .wordOperand .callNcN16, .plain .pushDe, .byteOperand .subAN8, .plain .rst10,
    .plain .retC, .plain .reti, .wordOperand .jpCN16, .plain .illegalDB,
    .wordOperand .callCN16, .plain .illegalDD, .byteOperand .sbcAN8, .plain .rst18
  ]

/-- Table A, row Ex. -/
def rowAE : List Entry :=
  [
    .byteOperand .ldhIndN8A, .plain .popHl, .plain .ldhIndCA, .plain .illegalE3,
    .plain .illegalE4, .plain .pushHl, .byteOperand .andAN8, .plain .rst20,
    .byteOperand .addSpE8, .plain .jpHl, .wordOperand .ldIndN16A, .plain .illegalEB,
    .plain .illegalEC, .plain .illegalED, .byteOperand .xorAN8, .plain .rst28
  ]

/-- Table A, row Fx. -/
def rowAF : List Entry :=
  [
    .byteOperand .ldhAIndN8, .plain .popAf, .plain .ldhAIndC, .plain .di,
    .plain .illegalF4, .plain .pushAf, .byteOperand .orAN8, .plain .rst30,
    .byteOperand .ldHlSpE8, .plain .ldSpHl, .wordOperand .ldAIndN16, .plain .ei,
    .plain .illegalFC, .plain .illegalFD, .byteOperand .cpAN8, .plain .rst38
  ]

/-- Table A (R105), by high nibble and low nibble. -/
def gridA : List (List Entry) :=
  [rowA0, rowA1, rowA2, rowA3, rowA4, rowA5, rowA6, rowA7,
   rowA8, rowA9, rowAA, rowAB, rowAC, rowAD, rowAE, rowAF]

/-- Table B, row 0x. -/
def rowB0 : List Instr :=
  [
    .rlcB, .rlcC, .rlcD, .rlcE,
    .rlcH, .rlcL, .rlcIndHl, .rlcA,
    .rrcB, .rrcC, .rrcD, .rrcE,
    .rrcH, .rrcL, .rrcIndHl, .rrcA
  ]

/-- Table B, row 1x. -/
def rowB1 : List Instr :=
  [
    .rlB, .rlC, .rlD, .rlE,
    .rlH, .rlL, .rlIndHl, .rlA,
    .rrB, .rrC, .rrD, .rrE,
    .rrH, .rrL, .rrIndHl, .rrA
  ]

/-- Table B, row 2x. -/
def rowB2 : List Instr :=
  [
    .slaB, .slaC, .slaD, .slaE,
    .slaH, .slaL, .slaIndHl, .slaA,
    .sraB, .sraC, .sraD, .sraE,
    .sraH, .sraL, .sraIndHl, .sraA
  ]

/-- Table B, row 3x. -/
def rowB3 : List Instr :=
  [
    .swapB, .swapC, .swapD, .swapE,
    .swapH, .swapL, .swapIndHl, .swapA,
    .srlB, .srlC, .srlD, .srlE,
    .srlH, .srlL, .srlIndHl, .srlA
  ]

/-- Table B, row 4x. -/
def rowB4 : List Instr :=
  [
    .bit0B, .bit0C, .bit0D, .bit0E,
    .bit0H, .bit0L, .bit0IndHl, .bit0A,
    .bit1B, .bit1C, .bit1D, .bit1E,
    .bit1H, .bit1L, .bit1IndHl, .bit1A
  ]

/-- Table B, row 5x. -/
def rowB5 : List Instr :=
  [
    .bit2B, .bit2C, .bit2D, .bit2E,
    .bit2H, .bit2L, .bit2IndHl, .bit2A,
    .bit3B, .bit3C, .bit3D, .bit3E,
    .bit3H, .bit3L, .bit3IndHl, .bit3A
  ]

/-- Table B, row 6x. -/
def rowB6 : List Instr :=
  [
    .bit4B, .bit4C, .bit4D, .bit4E,
    .bit4H, .bit4L, .bit4IndHl, .bit4A,
    .bit5B, .bit5C, .bit5D, .bit5E,
    .bit5H, .bit5L, .bit5IndHl, .bit5A
  ]

/-- Table B, row 7x. -/
def rowB7 : List Instr :=
  [
    .bit6B, .bit6C, .bit6D, .bit6E,
    .bit6H, .bit6L, .bit6IndHl, .bit6A,
    .bit7B, .bit7C, .bit7D, .bit7E,
    .bit7H, .bit7L, .bit7IndHl, .bit7A
  ]

/-- Table B, row 8x. -/
def rowB8 : List Instr :=
  [
    .res0B, .res0C, .res0D, .res0E,
    .res0H, .res0L, .res0IndHl, .res0A,
    .res1B, .res1C, .res1D, .res1E,
    .res1H, .res1L, .res1IndHl, .res1A
  ]

/-- Table B, row 9x. -/
def rowB9 : List Instr :=
  [
    .res2B, .res2C, .res2D, .res2E,
    .res2H, .res2L, .res2IndHl, .res2A,
    .res3B, .res3C, .res3D, .res3E,
    .res3H, .res3L, .res3IndHl, .res3A
  ]

/-- Table B, row Ax. -/
def rowBA : List Instr :=
  [
    .res4B, .res4C, .res4D, .res4E,
    .res4H, .res4L, .res4IndHl, .res4A,
    .res5B, .res5C, .res5D, .res5E,
    .res5H, .res5L, .res5IndHl, .res5A
  ]

/-- Table B, row Bx. -/
def rowBB : List Instr :=
  [
    .res6B, .res6C, .res6D, .res6E,
    .res6H, .res6L, .res6IndHl, .res6A,
    .res7B, .res7C, .res7D, .res7E,
    .res7H, .res7L, .res7IndHl, .res7A
  ]

/-- Table B, row Cx. -/
def rowBC : List Instr :=
  [
    .set0B, .set0C, .set0D, .set0E,
    .set0H, .set0L, .set0IndHl, .set0A,
    .set1B, .set1C, .set1D, .set1E,
    .set1H, .set1L, .set1IndHl, .set1A
  ]

/-- Table B, row Dx. -/
def rowBD : List Instr :=
  [
    .set2B, .set2C, .set2D, .set2E,
    .set2H, .set2L, .set2IndHl, .set2A,
    .set3B, .set3C, .set3D, .set3E,
    .set3H, .set3L, .set3IndHl, .set3A
  ]

/-- Table B, row Ex. -/
def rowBE : List Instr :=
  [
    .set4B, .set4C, .set4D, .set4E,
    .set4H, .set4L, .set4IndHl, .set4A,
    .set5B, .set5C, .set5D, .set5E,
    .set5H, .set5L, .set5IndHl, .set5A
  ]

/-- Table B, row Fx. -/
def rowBF : List Instr :=
  [
    .set6B, .set6C, .set6D, .set6E,
    .set6H, .set6L, .set6IndHl, .set6A,
    .set7B, .set7C, .set7D, .set7E,
    .set7H, .set7L, .set7IndHl, .set7A
  ]

/-- Table B (R106), by high nibble and low nibble. -/
def gridB : List (List Instr) :=
  [rowB0, rowB1, rowB2, rowB3, rowB4, rowB5, rowB6, rowB7,
   rowB8, rowB9, rowBA, rowBB, rowBC, rowBD, rowBE, rowBF]

/-- The entry of Table A at a first byte. The grid is complete, so neither default is ever used. -/
def tableA (op : Byte) : Entry := (gridA.getD (op.toNat / 16) []).getD (op.toNat % 16) (.plain .nop)

/-- The instruction of Table B at a second byte. All 256 are defined (R106), so neither default is ever used. -/
def tableB (op2 : Byte) : Instr := (gridB.getD (op2.toNat / 16) []).getD (op2.toNat % 16) .rlcB

/-- Why a list of bytes holds no whole instruction. -/
inductive Error where
  | noBytes
  | secondOpcodeMissing
  | operandMissing
  deriving DecidableEq, Repr

end Decoder

/-- The instruction at the front of a list of bytes, and the bytes after it (R90 to R94). The length is settled by the
first byte (R93). -/
def decode (bytes : List Byte) : Except Decoder.Error (Instr × List Byte) :=
  match bytes with
  | [] => .error .noBytes
  | op :: rest =>
    match Decoder.tableA op with
    | .plain i => .ok (i, rest)
    | .byteOperand f =>
      match rest with
      | [] => .error .operandMissing
      | n :: rest' => .ok (f n, rest')
    | .wordOperand f =>
      match rest with
      | lo :: hi :: rest' => .ok (f (Machine.joinBytes hi lo), rest')
      | _ => .error .operandMissing
    | .prefixByte =>
      match rest with
      | [] => .error .secondOpcodeMissing
      | op2 :: rest' => .ok (Decoder.tableB op2, rest')

/-- Little-endian: the low byte of a 16-bit immediate comes first (R94). -/
def wordBytes (w : Word) : List Byte := [Machine.low w, Machine.high w]

/-- The bytes of an instruction (R101 to R106). -/
def encode (i : Instr) : List Byte :=
  match i with
  | .nop => [0x00]
  | .ldBcN16 n => 0x01 :: wordBytes n
  | .ldIndBcA => [0x02]
  | .incBc => [0x03]
  | .incB => [0x04]
  | .decB => [0x05]
  | .ldBN8 n => [0x06, n]
  | .rlca => [0x07]
  | .ldIndN16Sp n => 0x08 :: wordBytes n
  | .addHlBc => [0x09]
  | .ldAIndBc => [0x0A]
  | .decBc => [0x0B]
  | .incC => [0x0C]
  | .decC => [0x0D]
  | .ldCN8 n => [0x0E, n]
  | .rrca => [0x0F]
  | .stop pad => [0x10, pad]
  | .ldDeN16 n => 0x11 :: wordBytes n
  | .ldIndDeA => [0x12]
  | .incDe => [0x13]
  | .incD => [0x14]
  | .decD => [0x15]
  | .ldDN8 n => [0x16, n]
  | .rla => [0x17]
  | .jrE8 e => [0x18, e]
  | .addHlDe => [0x19]
  | .ldAIndDe => [0x1A]
  | .decDe => [0x1B]
  | .incE => [0x1C]
  | .decE => [0x1D]
  | .ldEN8 n => [0x1E, n]
  | .rra => [0x1F]
  | .jrNzE8 e => [0x20, e]
  | .ldHlN16 n => 0x21 :: wordBytes n
  | .ldIndHliA => [0x22]
  | .incHl => [0x23]
  | .incH => [0x24]
  | .decH => [0x25]
  | .ldHN8 n => [0x26, n]
  | .daa => [0x27]
  | .jrZE8 e => [0x28, e]
  | .addHlHl => [0x29]
  | .ldAIndHli => [0x2A]
  | .decHl => [0x2B]
  | .incL => [0x2C]
  | .decL => [0x2D]
  | .ldLN8 n => [0x2E, n]
  | .cpl => [0x2F]
  | .jrNcE8 e => [0x30, e]
  | .ldSpN16 n => 0x31 :: wordBytes n
  | .ldIndHldA => [0x32]
  | .incSp => [0x33]
  | .incIndHl => [0x34]
  | .decIndHl => [0x35]
  | .ldIndHlN8 n => [0x36, n]
  | .scf => [0x37]
  | .jrCE8 e => [0x38, e]
  | .addHlSp => [0x39]
  | .ldAIndHld => [0x3A]
  | .decSp => [0x3B]
  | .incA => [0x3C]
  | .decA => [0x3D]
  | .ldAN8 n => [0x3E, n]
  | .ccf => [0x3F]
  | .ldBB => [0x40]
  | .ldBC => [0x41]
  | .ldBD => [0x42]
  | .ldBE => [0x43]
  | .ldBH => [0x44]
  | .ldBL => [0x45]
  | .ldBIndHl => [0x46]
  | .ldBA => [0x47]
  | .ldCB => [0x48]
  | .ldCC => [0x49]
  | .ldCD => [0x4A]
  | .ldCE => [0x4B]
  | .ldCH => [0x4C]
  | .ldCL => [0x4D]
  | .ldCIndHl => [0x4E]
  | .ldCA => [0x4F]
  | .ldDB => [0x50]
  | .ldDC => [0x51]
  | .ldDD => [0x52]
  | .ldDE => [0x53]
  | .ldDH => [0x54]
  | .ldDL => [0x55]
  | .ldDIndHl => [0x56]
  | .ldDA => [0x57]
  | .ldEB => [0x58]
  | .ldEC => [0x59]
  | .ldED => [0x5A]
  | .ldEE => [0x5B]
  | .ldEH => [0x5C]
  | .ldEL => [0x5D]
  | .ldEIndHl => [0x5E]
  | .ldEA => [0x5F]
  | .ldHB => [0x60]
  | .ldHC => [0x61]
  | .ldHD => [0x62]
  | .ldHE => [0x63]
  | .ldHH => [0x64]
  | .ldHL => [0x65]
  | .ldHIndHl => [0x66]
  | .ldHA => [0x67]
  | .ldLB => [0x68]
  | .ldLC => [0x69]
  | .ldLD => [0x6A]
  | .ldLE => [0x6B]
  | .ldLH => [0x6C]
  | .ldLL => [0x6D]
  | .ldLIndHl => [0x6E]
  | .ldLA => [0x6F]
  | .ldIndHlB => [0x70]
  | .ldIndHlC => [0x71]
  | .ldIndHlD => [0x72]
  | .ldIndHlE => [0x73]
  | .ldIndHlH => [0x74]
  | .ldIndHlL => [0x75]
  | .halt => [0x76]
  | .ldIndHlA => [0x77]
  | .ldAB => [0x78]
  | .ldAC => [0x79]
  | .ldAD => [0x7A]
  | .ldAE => [0x7B]
  | .ldAH => [0x7C]
  | .ldAL => [0x7D]
  | .ldAIndHl => [0x7E]
  | .ldAA => [0x7F]
  | .addAB => [0x80]
  | .addAC => [0x81]
  | .addAD => [0x82]
  | .addAE => [0x83]
  | .addAH => [0x84]
  | .addAL => [0x85]
  | .addAIndHl => [0x86]
  | .addAA => [0x87]
  | .adcAB => [0x88]
  | .adcAC => [0x89]
  | .adcAD => [0x8A]
  | .adcAE => [0x8B]
  | .adcAH => [0x8C]
  | .adcAL => [0x8D]
  | .adcAIndHl => [0x8E]
  | .adcAA => [0x8F]
  | .subAB => [0x90]
  | .subAC => [0x91]
  | .subAD => [0x92]
  | .subAE => [0x93]
  | .subAH => [0x94]
  | .subAL => [0x95]
  | .subAIndHl => [0x96]
  | .subAA => [0x97]
  | .sbcAB => [0x98]
  | .sbcAC => [0x99]
  | .sbcAD => [0x9A]
  | .sbcAE => [0x9B]
  | .sbcAH => [0x9C]
  | .sbcAL => [0x9D]
  | .sbcAIndHl => [0x9E]
  | .sbcAA => [0x9F]
  | .andAB => [0xA0]
  | .andAC => [0xA1]
  | .andAD => [0xA2]
  | .andAE => [0xA3]
  | .andAH => [0xA4]
  | .andAL => [0xA5]
  | .andAIndHl => [0xA6]
  | .andAA => [0xA7]
  | .xorAB => [0xA8]
  | .xorAC => [0xA9]
  | .xorAD => [0xAA]
  | .xorAE => [0xAB]
  | .xorAH => [0xAC]
  | .xorAL => [0xAD]
  | .xorAIndHl => [0xAE]
  | .xorAA => [0xAF]
  | .orAB => [0xB0]
  | .orAC => [0xB1]
  | .orAD => [0xB2]
  | .orAE => [0xB3]
  | .orAH => [0xB4]
  | .orAL => [0xB5]
  | .orAIndHl => [0xB6]
  | .orAA => [0xB7]
  | .cpAB => [0xB8]
  | .cpAC => [0xB9]
  | .cpAD => [0xBA]
  | .cpAE => [0xBB]
  | .cpAH => [0xBC]
  | .cpAL => [0xBD]
  | .cpAIndHl => [0xBE]
  | .cpAA => [0xBF]
  | .retNz => [0xC0]
  | .popBc => [0xC1]
  | .jpNzN16 n => 0xC2 :: wordBytes n
  | .jpN16 n => 0xC3 :: wordBytes n
  | .callNzN16 n => 0xC4 :: wordBytes n
  | .pushBc => [0xC5]
  | .addAN8 n => [0xC6, n]
  | .rst00 => [0xC7]
  | .retZ => [0xC8]
  | .ret => [0xC9]
  | .jpZN16 n => 0xCA :: wordBytes n
  | .prefixCb => [0xCB]
  | .callZN16 n => 0xCC :: wordBytes n
  | .callN16 n => 0xCD :: wordBytes n
  | .adcAN8 n => [0xCE, n]
  | .rst08 => [0xCF]
  | .retNc => [0xD0]
  | .popDe => [0xD1]
  | .jpNcN16 n => 0xD2 :: wordBytes n
  | .illegalD3 => [0xD3]
  | .callNcN16 n => 0xD4 :: wordBytes n
  | .pushDe => [0xD5]
  | .subAN8 n => [0xD6, n]
  | .rst10 => [0xD7]
  | .retC => [0xD8]
  | .reti => [0xD9]
  | .jpCN16 n => 0xDA :: wordBytes n
  | .illegalDB => [0xDB]
  | .callCN16 n => 0xDC :: wordBytes n
  | .illegalDD => [0xDD]
  | .sbcAN8 n => [0xDE, n]
  | .rst18 => [0xDF]
  | .ldhIndN8A n => [0xE0, n]
  | .popHl => [0xE1]
  | .ldhIndCA => [0xE2]
  | .illegalE3 => [0xE3]
  | .illegalE4 => [0xE4]
  | .pushHl => [0xE5]
  | .andAN8 n => [0xE6, n]
  | .rst20 => [0xE7]
  | .addSpE8 e => [0xE8, e]
  | .jpHl => [0xE9]
  | .ldIndN16A n => 0xEA :: wordBytes n
  | .illegalEB => [0xEB]
  | .illegalEC => [0xEC]
  | .illegalED => [0xED]
  | .xorAN8 n => [0xEE, n]
  | .rst28 => [0xEF]
  | .ldhAIndN8 n => [0xF0, n]
  | .popAf => [0xF1]
  | .ldhAIndC => [0xF2]
  | .di => [0xF3]
  | .illegalF4 => [0xF4]
  | .pushAf => [0xF5]
  | .orAN8 n => [0xF6, n]
  | .rst30 => [0xF7]
  | .ldHlSpE8 e => [0xF8, e]
  | .ldSpHl => [0xF9]
  | .ldAIndN16 n => 0xFA :: wordBytes n
  | .ei => [0xFB]
  | .illegalFC => [0xFC]
  | .illegalFD => [0xFD]
  | .cpAN8 n => [0xFE, n]
  | .rst38 => [0xFF]
  | .rlcB => [0xCB, 0x00]
  | .rlcC => [0xCB, 0x01]
  | .rlcD => [0xCB, 0x02]
  | .rlcE => [0xCB, 0x03]
  | .rlcH => [0xCB, 0x04]
  | .rlcL => [0xCB, 0x05]
  | .rlcIndHl => [0xCB, 0x06]
  | .rlcA => [0xCB, 0x07]
  | .rrcB => [0xCB, 0x08]
  | .rrcC => [0xCB, 0x09]
  | .rrcD => [0xCB, 0x0A]
  | .rrcE => [0xCB, 0x0B]
  | .rrcH => [0xCB, 0x0C]
  | .rrcL => [0xCB, 0x0D]
  | .rrcIndHl => [0xCB, 0x0E]
  | .rrcA => [0xCB, 0x0F]
  | .rlB => [0xCB, 0x10]
  | .rlC => [0xCB, 0x11]
  | .rlD => [0xCB, 0x12]
  | .rlE => [0xCB, 0x13]
  | .rlH => [0xCB, 0x14]
  | .rlL => [0xCB, 0x15]
  | .rlIndHl => [0xCB, 0x16]
  | .rlA => [0xCB, 0x17]
  | .rrB => [0xCB, 0x18]
  | .rrC => [0xCB, 0x19]
  | .rrD => [0xCB, 0x1A]
  | .rrE => [0xCB, 0x1B]
  | .rrH => [0xCB, 0x1C]
  | .rrL => [0xCB, 0x1D]
  | .rrIndHl => [0xCB, 0x1E]
  | .rrA => [0xCB, 0x1F]
  | .slaB => [0xCB, 0x20]
  | .slaC => [0xCB, 0x21]
  | .slaD => [0xCB, 0x22]
  | .slaE => [0xCB, 0x23]
  | .slaH => [0xCB, 0x24]
  | .slaL => [0xCB, 0x25]
  | .slaIndHl => [0xCB, 0x26]
  | .slaA => [0xCB, 0x27]
  | .sraB => [0xCB, 0x28]
  | .sraC => [0xCB, 0x29]
  | .sraD => [0xCB, 0x2A]
  | .sraE => [0xCB, 0x2B]
  | .sraH => [0xCB, 0x2C]
  | .sraL => [0xCB, 0x2D]
  | .sraIndHl => [0xCB, 0x2E]
  | .sraA => [0xCB, 0x2F]
  | .swapB => [0xCB, 0x30]
  | .swapC => [0xCB, 0x31]
  | .swapD => [0xCB, 0x32]
  | .swapE => [0xCB, 0x33]
  | .swapH => [0xCB, 0x34]
  | .swapL => [0xCB, 0x35]
  | .swapIndHl => [0xCB, 0x36]
  | .swapA => [0xCB, 0x37]
  | .srlB => [0xCB, 0x38]
  | .srlC => [0xCB, 0x39]
  | .srlD => [0xCB, 0x3A]
  | .srlE => [0xCB, 0x3B]
  | .srlH => [0xCB, 0x3C]
  | .srlL => [0xCB, 0x3D]
  | .srlIndHl => [0xCB, 0x3E]
  | .srlA => [0xCB, 0x3F]
  | .bit0B => [0xCB, 0x40]
  | .bit0C => [0xCB, 0x41]
  | .bit0D => [0xCB, 0x42]
  | .bit0E => [0xCB, 0x43]
  | .bit0H => [0xCB, 0x44]
  | .bit0L => [0xCB, 0x45]
  | .bit0IndHl => [0xCB, 0x46]
  | .bit0A => [0xCB, 0x47]
  | .bit1B => [0xCB, 0x48]
  | .bit1C => [0xCB, 0x49]
  | .bit1D => [0xCB, 0x4A]
  | .bit1E => [0xCB, 0x4B]
  | .bit1H => [0xCB, 0x4C]
  | .bit1L => [0xCB, 0x4D]
  | .bit1IndHl => [0xCB, 0x4E]
  | .bit1A => [0xCB, 0x4F]
  | .bit2B => [0xCB, 0x50]
  | .bit2C => [0xCB, 0x51]
  | .bit2D => [0xCB, 0x52]
  | .bit2E => [0xCB, 0x53]
  | .bit2H => [0xCB, 0x54]
  | .bit2L => [0xCB, 0x55]
  | .bit2IndHl => [0xCB, 0x56]
  | .bit2A => [0xCB, 0x57]
  | .bit3B => [0xCB, 0x58]
  | .bit3C => [0xCB, 0x59]
  | .bit3D => [0xCB, 0x5A]
  | .bit3E => [0xCB, 0x5B]
  | .bit3H => [0xCB, 0x5C]
  | .bit3L => [0xCB, 0x5D]
  | .bit3IndHl => [0xCB, 0x5E]
  | .bit3A => [0xCB, 0x5F]
  | .bit4B => [0xCB, 0x60]
  | .bit4C => [0xCB, 0x61]
  | .bit4D => [0xCB, 0x62]
  | .bit4E => [0xCB, 0x63]
  | .bit4H => [0xCB, 0x64]
  | .bit4L => [0xCB, 0x65]
  | .bit4IndHl => [0xCB, 0x66]
  | .bit4A => [0xCB, 0x67]
  | .bit5B => [0xCB, 0x68]
  | .bit5C => [0xCB, 0x69]
  | .bit5D => [0xCB, 0x6A]
  | .bit5E => [0xCB, 0x6B]
  | .bit5H => [0xCB, 0x6C]
  | .bit5L => [0xCB, 0x6D]
  | .bit5IndHl => [0xCB, 0x6E]
  | .bit5A => [0xCB, 0x6F]
  | .bit6B => [0xCB, 0x70]
  | .bit6C => [0xCB, 0x71]
  | .bit6D => [0xCB, 0x72]
  | .bit6E => [0xCB, 0x73]
  | .bit6H => [0xCB, 0x74]
  | .bit6L => [0xCB, 0x75]
  | .bit6IndHl => [0xCB, 0x76]
  | .bit6A => [0xCB, 0x77]
  | .bit7B => [0xCB, 0x78]
  | .bit7C => [0xCB, 0x79]
  | .bit7D => [0xCB, 0x7A]
  | .bit7E => [0xCB, 0x7B]
  | .bit7H => [0xCB, 0x7C]
  | .bit7L => [0xCB, 0x7D]
  | .bit7IndHl => [0xCB, 0x7E]
  | .bit7A => [0xCB, 0x7F]
  | .res0B => [0xCB, 0x80]
  | .res0C => [0xCB, 0x81]
  | .res0D => [0xCB, 0x82]
  | .res0E => [0xCB, 0x83]
  | .res0H => [0xCB, 0x84]
  | .res0L => [0xCB, 0x85]
  | .res0IndHl => [0xCB, 0x86]
  | .res0A => [0xCB, 0x87]
  | .res1B => [0xCB, 0x88]
  | .res1C => [0xCB, 0x89]
  | .res1D => [0xCB, 0x8A]
  | .res1E => [0xCB, 0x8B]
  | .res1H => [0xCB, 0x8C]
  | .res1L => [0xCB, 0x8D]
  | .res1IndHl => [0xCB, 0x8E]
  | .res1A => [0xCB, 0x8F]
  | .res2B => [0xCB, 0x90]
  | .res2C => [0xCB, 0x91]
  | .res2D => [0xCB, 0x92]
  | .res2E => [0xCB, 0x93]
  | .res2H => [0xCB, 0x94]
  | .res2L => [0xCB, 0x95]
  | .res2IndHl => [0xCB, 0x96]
  | .res2A => [0xCB, 0x97]
  | .res3B => [0xCB, 0x98]
  | .res3C => [0xCB, 0x99]
  | .res3D => [0xCB, 0x9A]
  | .res3E => [0xCB, 0x9B]
  | .res3H => [0xCB, 0x9C]
  | .res3L => [0xCB, 0x9D]
  | .res3IndHl => [0xCB, 0x9E]
  | .res3A => [0xCB, 0x9F]
  | .res4B => [0xCB, 0xA0]
  | .res4C => [0xCB, 0xA1]
  | .res4D => [0xCB, 0xA2]
  | .res4E => [0xCB, 0xA3]
  | .res4H => [0xCB, 0xA4]
  | .res4L => [0xCB, 0xA5]
  | .res4IndHl => [0xCB, 0xA6]
  | .res4A => [0xCB, 0xA7]
  | .res5B => [0xCB, 0xA8]
  | .res5C => [0xCB, 0xA9]
  | .res5D => [0xCB, 0xAA]
  | .res5E => [0xCB, 0xAB]
  | .res5H => [0xCB, 0xAC]
  | .res5L => [0xCB, 0xAD]
  | .res5IndHl => [0xCB, 0xAE]
  | .res5A => [0xCB, 0xAF]
  | .res6B => [0xCB, 0xB0]
  | .res6C => [0xCB, 0xB1]
  | .res6D => [0xCB, 0xB2]
  | .res6E => [0xCB, 0xB3]
  | .res6H => [0xCB, 0xB4]
  | .res6L => [0xCB, 0xB5]
  | .res6IndHl => [0xCB, 0xB6]
  | .res6A => [0xCB, 0xB7]
  | .res7B => [0xCB, 0xB8]
  | .res7C => [0xCB, 0xB9]
  | .res7D => [0xCB, 0xBA]
  | .res7E => [0xCB, 0xBB]
  | .res7H => [0xCB, 0xBC]
  | .res7L => [0xCB, 0xBD]
  | .res7IndHl => [0xCB, 0xBE]
  | .res7A => [0xCB, 0xBF]
  | .set0B => [0xCB, 0xC0]
  | .set0C => [0xCB, 0xC1]
  | .set0D => [0xCB, 0xC2]
  | .set0E => [0xCB, 0xC3]
  | .set0H => [0xCB, 0xC4]
  | .set0L => [0xCB, 0xC5]
  | .set0IndHl => [0xCB, 0xC6]
  | .set0A => [0xCB, 0xC7]
  | .set1B => [0xCB, 0xC8]
  | .set1C => [0xCB, 0xC9]
  | .set1D => [0xCB, 0xCA]
  | .set1E => [0xCB, 0xCB]
  | .set1H => [0xCB, 0xCC]
  | .set1L => [0xCB, 0xCD]
  | .set1IndHl => [0xCB, 0xCE]
  | .set1A => [0xCB, 0xCF]
  | .set2B => [0xCB, 0xD0]
  | .set2C => [0xCB, 0xD1]
  | .set2D => [0xCB, 0xD2]
  | .set2E => [0xCB, 0xD3]
  | .set2H => [0xCB, 0xD4]
  | .set2L => [0xCB, 0xD5]
  | .set2IndHl => [0xCB, 0xD6]
  | .set2A => [0xCB, 0xD7]
  | .set3B => [0xCB, 0xD8]
  | .set3C => [0xCB, 0xD9]
  | .set3D => [0xCB, 0xDA]
  | .set3E => [0xCB, 0xDB]
  | .set3H => [0xCB, 0xDC]
  | .set3L => [0xCB, 0xDD]
  | .set3IndHl => [0xCB, 0xDE]
  | .set3A => [0xCB, 0xDF]
  | .set4B => [0xCB, 0xE0]
  | .set4C => [0xCB, 0xE1]
  | .set4D => [0xCB, 0xE2]
  | .set4E => [0xCB, 0xE3]
  | .set4H => [0xCB, 0xE4]
  | .set4L => [0xCB, 0xE5]
  | .set4IndHl => [0xCB, 0xE6]
  | .set4A => [0xCB, 0xE7]
  | .set5B => [0xCB, 0xE8]
  | .set5C => [0xCB, 0xE9]
  | .set5D => [0xCB, 0xEA]
  | .set5E => [0xCB, 0xEB]
  | .set5H => [0xCB, 0xEC]
  | .set5L => [0xCB, 0xED]
  | .set5IndHl => [0xCB, 0xEE]
  | .set5A => [0xCB, 0xEF]
  | .set6B => [0xCB, 0xF0]
  | .set6C => [0xCB, 0xF1]
  | .set6D => [0xCB, 0xF2]
  | .set6E => [0xCB, 0xF3]
  | .set6H => [0xCB, 0xF4]
  | .set6L => [0xCB, 0xF5]
  | .set6IndHl => [0xCB, 0xF6]
  | .set6A => [0xCB, 0xF7]
  | .set7B => [0xCB, 0xF8]
  | .set7C => [0xCB, 0xF9]
  | .set7D => [0xCB, 0xFA]
  | .set7E => [0xCB, 0xFB]
  | .set7H => [0xCB, 0xFC]
  | .set7L => [0xCB, 0xFD]
  | .set7IndHl => [0xCB, 0xFE]
  | .set7A => [0xCB, 0xFF]

/-- The slot number of a register (R95). -/
def Reg8.code (r : Reg8) : Nat :=
  match r with
  | .b => 0
  | .c => 1
  | .d => 2
  | .e => 3
  | .h => 4
  | .l => 5
  | .a => 7

/-- The number of a register of the general 16-bit group (R96). -/
def Reg16.code (r : Reg16) : Nat :=
  match r with
  | .bc => 0
  | .de => 1
  | .hl => 2
  | .sp => 3

/-- The number of a register of the stack group (R97). -/
def StackReg.code (r : StackReg) : Nat :=
  match r with
  | .bc => 0
  | .de => 1
  | .hl => 2
  | .af => 3

/-- The number of a condition (R99). -/
def Cond.code (cc : Cond) : Nat :=
  match cc with
  | .nz => 0
  | .z => 1
  | .nc => 2
  | .c => 3

/-- The number of an accumulator operation (R99). -/
def AluOp.code (op : AluOp) : Nat :=
  match op with
  | .add => 0
  | .adc => 1
  | .sub => 2
  | .sbc => 3
  | .and => 4
  | .xor => 5
  | .or => 6
  | .cp => 7

/-- The number of a rotate, shift or swap (R106). -/
def ShiftOp.code (op : ShiftOp) : Nat :=
  match op with
  | .rlc => 0
  | .rrc => 1
  | .rl => 2
  | .rr => 3
  | .sla => 4
  | .sra => 5
  | .swap => 6
  | .srl => 7

/-- The operand slot with a given number (R95). -/
def slotOf (z : Nat) : Slot :=
  match z with
  | 0 => .reg .b
  | 1 => .reg .c
  | 2 => .reg .d
  | 3 => .reg .e
  | 4 => .reg .h
  | 5 => .reg .l
  | 6 => .indHl
  | _ => .reg .a

/-- The rotate, shift or swap with a given number (R106). -/
def shiftOpOf (y : Nat) : ShiftOp :=
  match y with
  | 0 => .rlc
  | 1 => .rrc
  | 2 => .rl
  | 3 => .rr
  | 4 => .sla
  | 5 => .sra
  | 6 => .swap
  | _ => .srl

/-- Three bytes of a number in the table's numbering: the first byte is bits 7..0. Bits at and above `nbits` are 0. -/
def tableWordBytes (nbits w : Nat) : List Byte :=
  let v := w % 2 ^ nbits
  [BitVec.ofNat 8 v, BitVec.ofNat 8 (v / 256), BitVec.ofNat 8 (v / 65536)]

/-- The instruction the decoder reads from a number in the table's numbering. -/
def decodeTableWord (nbits w : Nat) : Option Instr :=
  match decode (tableWordBytes nbits w) with
  | .ok (i, _) => some i
  | .error _ => none

end Sys2Proof
end

