-- ==== Sys2Proof/Machine/Timing.lean ====
section
/-! DEFINITION. The base m-cycle cost of every instruction (R392), laid out as Table A is. Timing only: no rule that
computes a register, a flag, memory or `pc` depends on it (R394). Most numbers are the spec's from general knowledge
(log entry 10). -/

namespace Sys2Proof.Machine

/-- The base costs of Table A. The prefix and the illegal bytes have none of their own (R125, R296). -/
def cyclesGridA : List (List Nat) :=
  [
   [1, 3, 2, 2, 1, 1, 2, 1, 5, 2, 2, 2, 1, 1, 2, 1],
   [1, 3, 2, 2, 1, 1, 2, 1, 3, 2, 2, 2, 1, 1, 2, 1],
   [2, 3, 2, 2, 1, 1, 2, 1, 2, 2, 2, 2, 1, 1, 2, 1],
   [2, 3, 2, 2, 3, 3, 3, 1, 2, 2, 2, 2, 1, 1, 2, 1],
   [1, 1, 1, 1, 1, 1, 2, 1, 1, 1, 1, 1, 1, 1, 2, 1],
   [1, 1, 1, 1, 1, 1, 2, 1, 1, 1, 1, 1, 1, 1, 2, 1],
   [1, 1, 1, 1, 1, 1, 2, 1, 1, 1, 1, 1, 1, 1, 2, 1],
   [2, 2, 2, 2, 2, 2, 1, 2, 1, 1, 1, 1, 1, 1, 2, 1],
   [1, 1, 1, 1, 1, 1, 2, 1, 1, 1, 1, 1, 1, 1, 2, 1],
   [1, 1, 1, 1, 1, 1, 2, 1, 1, 1, 1, 1, 1, 1, 2, 1],
   [1, 1, 1, 1, 1, 1, 2, 1, 1, 1, 1, 1, 1, 1, 2, 1],
   [1, 1, 1, 1, 1, 1, 2, 1, 1, 1, 1, 1, 1, 1, 2, 1],
   [2, 3, 3, 4, 3, 4, 2, 4, 2, 4, 3, 0, 3, 6, 2, 4],
   [2, 3, 3, 0, 3, 4, 2, 4, 2, 4, 3, 0, 3, 0, 2, 4],
   [3, 3, 2, 0, 0, 4, 2, 4, 4, 1, 4, 0, 0, 0, 2, 4],
   [3, 3, 2, 1, 0, 4, 2, 4, 3, 2, 4, 1, 0, 0, 2, 4]
  ]

/-- The base cost of a Table B instruction: doubled when the operand is `(HL)`, `BIT` included (R309, R392). -/
def tableBCycles (op2 : Byte) : Nat := if op2.toNat % 8 = 6 then 4 else 2

/-- The base cost of an instruction, when a condition is not taken (R127, R392). -/
def baseCycles (i : Instr) : Nat :=
  match encode i with
  | [] => 0
  | op :: operands =>
    if op = 0xCB then
      match operands with
      | [] => 0
      | op2 :: _ => tableBCycles op2
    else (cyclesGridA.getD (op.toNat / 16) []).getD (op.toNat % 16) 0

end Sys2Proof.Machine
end

