-- ==== Sys2Proof/Machine/Prefix.lean ====
section
/-! DEFINITION. The prefix byte `0xCB` as a row of the table (R296). The fetch reads the prefix and the second opcode in
one go (R123), so the decoder never gives this row: its meaning is what R296 says the byte stands for (log
entry 11). -/

namespace Sys2Proof.Machine

/-- A rotate, shift or swap of a slot (R309). -/
def opShiftSlot (op : ShiftOp) (slot : Slot) (s : State) : State :=
  match slot with
  | .reg r => opShiftReg op r s
  | .indHl => opShiftInd op s

/-- `BIT n` of a slot (R326, R327). -/
def opBitSlot (n : Nat) (slot : Slot) (s : State) : State :=
  match slot with
  | .reg r => opBitReg n r s
  | .indHl => opBitInd n s

/-- `RES n` of a slot (R328, R329). -/
def opResSlot (n : Nat) (slot : Slot) (s : State) : State :=
  match slot with
  | .reg r => opResReg n r s
  | .indHl => opResInd n s

/-- `SET n` of a slot (R330, R331). -/
def opSetSlot (n : Nat) (slot : Slot) (s : State) : State :=
  match slot with
  | .reg r => opSetReg n r s
  | .indHl => opSetInd n s

/-- The Table B instruction that a second opcode selects by its fields `x`, `y`, `z` (R106). -/
def opTableB (op2 : Byte) (s : State) : State :=
  let y := op2.toNat / 8 % 8
  let slot := slotOf (op2.toNat % 8)
  match op2.toNat / 64 with
  | 0 => opShiftSlot (shiftOpOf y) slot s
  | 1 => opBitSlot y slot s
  | 2 => opResSlot y slot s
  | _ => opSetSlot y slot s

/-- `PREFIX CB` (R296): nothing of its own. The next byte is read and the Table B instruction it selects is executed.
The pair costs what that instruction costs. -/
def execPrefixCb (s : State) : Result :=
  let (op2, s1) := imm8 s
  .next (tick (tableBCycles op2) (opTableB op2 s1))

end Sys2Proof.Machine
end

