-- ==== Sys2Proof/Machine/System.lean ====
section
/-! DEFINITION. The system instructions and the illegal bytes (`46_system.md`). The prefix byte is in `Prefix.lean`. -/

namespace Sys2Proof.Machine

/-- `EI`: with the delay the enable is left pending, without it the enable is immediate (R294). -/
def opEnableInterrupts (delay : Bool) (s : State) : State :=
  if delay then { s with imePending := true } else { s with ime := true }

/-- `NOP` (R290). -/
def execNop (s : State) : Result := .next s

/-- `STOP` (R292): the padding byte has been read with the instruction and is ignored, whatever its value. -/
def execStop (_pad : Byte) (s : State) : Result := .next { s with mode := .stopped }

/-- `HALT` (R291). -/
def execHalt (s : State) : Result := .next { s with mode := .halted }

/-- The byte `D3` as a first byte (R295): it stops the core by the fault of R341. -/
def execIllegalD3 (s : State) : Result := raiseIllegalOpcode 0xD3 s

/-- The byte `DB` as a first byte (R295): it stops the core by the fault of R341. -/
def execIllegalDB (s : State) : Result := raiseIllegalOpcode 0xDB s

/-- The byte `DD` as a first byte (R295): it stops the core by the fault of R341. -/
def execIllegalDD (s : State) : Result := raiseIllegalOpcode 0xDD s

/-- The byte `E3` as a first byte (R295): it stops the core by the fault of R341. -/
def execIllegalE3 (s : State) : Result := raiseIllegalOpcode 0xE3 s

/-- The byte `E4` as a first byte (R295): it stops the core by the fault of R341. -/
def execIllegalE4 (s : State) : Result := raiseIllegalOpcode 0xE4 s

/-- The byte `EB` as a first byte (R295): it stops the core by the fault of R341. -/
def execIllegalEB (s : State) : Result := raiseIllegalOpcode 0xEB s

/-- The byte `EC` as a first byte (R295): it stops the core by the fault of R341. -/
def execIllegalEC (s : State) : Result := raiseIllegalOpcode 0xEC s

/-- The byte `ED` as a first byte (R295): it stops the core by the fault of R341. -/
def execIllegalED (s : State) : Result := raiseIllegalOpcode 0xED s

/-- `DI` (R293). -/
def execDi (s : State) : Result := .next { s with ime := false, imePending := false }

/-- The byte `F4` as a first byte (R295): it stops the core by the fault of R341. -/
def execIllegalF4 (s : State) : Result := raiseIllegalOpcode 0xF4 s

/-- `EI` (R294). -/
def execEi (s : State) : Result := .next (opEnableInterrupts Config.eiDelay s)

/-- The byte `FC` as a first byte (R295): it stops the core by the fault of R341. -/
def execIllegalFC (s : State) : Result := raiseIllegalOpcode 0xFC s

/-- The byte `FD` as a first byte (R295): it stops the core by the fault of R341. -/
def execIllegalFD (s : State) : Result := raiseIllegalOpcode 0xFD s

end Sys2Proof.Machine
end

