-- ==== Sys2Proof/Machine/Fetch.lean ====
section
/-! DEFINITION. Fetching an instruction (R123), and placing one where the fetch will find it. -/

namespace Sys2Proof.Machine

/-- Fetch and decode: the opcode byte, then the second opcode after `0xCB` or the operand bytes the entry asks for, each
one read at `pc` with `pc` moved past it (R123, R130, R131). -/
def fetch (s : State) : Instr × State :=
  let (op, s1) := imm8 s
  match Decoder.tableA op with
  | .plain i => (i, s1)
  | .byteOperand f =>
    let (n, s2) := imm8 s1
    (f n, s2)
  | .wordOperand f =>
    let (n, s2) := imm16 s1
    (f n, s2)
  | .prefixByte =>
    let (op2, s2) := imm8 s1
    (Decoder.tableB op2, s2)

/-- Bytes placed from an address on, the first at the lowest address. -/
def placeBytes (addr : Word) (bytes : List Byte) (m : Memory) : Memory :=
  match bytes with
  | [] => m
  | v :: rest => placeBytes (addr + 1) rest (Memory.write m addr v)

end Sys2Proof.Machine
end

