-- ==== Sys2Proof/Machine/Cycle.lean ====
section
/-! DEFINITION. The execution cycle (`40_execution_cycle.md`, R138): the idle modes, the interrupt check, fetch, execution
and the charge. -/

namespace Sys2Proof.Machine

/-- The end of a step: what it was (R137). -/
def endStep (what : StepOutcome) (s : State) : State := { s with outcome := some what }

/-- The step that runs one instruction: fetch, execute, charge the base cost, and the EI promotion (R123, R126, R127,
R129). -/
def instructionStep (s : State) : Result :=
  let (i, s1) := fetch s
  match exec i s1 with
  | .next s2 => .next (endStep .executed (promoteIme s.imePending (tick (baseCycles i) s2)))
  | .fault r => .fault r
  | .refused r => .refused r

/-- The interrupt check, with the two sampled bytes, of a core that is `Running` (R124, R347). -/
def interruptCheck (ie ifl : Byte) (s : State) : Result :=
  if s.ime && pendingSet ie ifl != 0 then
    let n := lowestPending (pendingSet ie ifl)
    .next (endStep (.dispatched n) (dispatchInterrupt n ifl s))
  else instructionStep s

/-- The step of a core that is not `Stopped`: `IE` and `IF` are sampled, a pending interrupt releases `Halted`, and a
core that stays `Halted` idles for one m-cycle (R121). -/
def sampledStep (s : State) : Result :=
  let (ie, s1) := ioReadIE s
  let (ifl, s2) := ioReadIF s1
  if s2.mode = .halted then
    if pendingSet ie ifl != 0 then interruptCheck ie ifl { s2 with mode := .running }
    else .next (endStep .idle (tick 1 s2))
  else interruptCheck ie ifl s2

/-- One step of the core, with the value found at `stop_wake` if it is read (R122, R137, R138). -/
def coreStep (stopWake : Bool) (s : State) : Result :=
  if s.locked then .fault .coreLocked
  else if s.mode = .stopped then
    let s1 := { s with stopWakeReads := s.stopWakeReads + 1 }
    if stopWake then sampledStep { s1 with mode := .running } else .next (endStep .idle (tick 1 s1))
  else sampledStep s

/-- What happens between two steps: the other agents' next writes are made, and the outputs of the
last step are cleared (R72, R139). -/
def beginStep (s : State) : State :=
  match s.env with
  | [] => { s with bus := [], outcome := none }
  | writes :: later =>
    { s with bus := [], outcome := none, mem := Memory.writeAll s.mem writes, env := later }

end Sys2Proof.Machine
end

