-- ==== Sys2Proof/Machine/Step.lean ====
section
/-! DEFINITION. One step of the machine: what the other agents do first, then one `step()` of the core. -/

namespace Sys2Proof.Machine

/-- One step (R120, R138). The value of `stop_wake` is a free value (R122). -/
def step (s : State) : Host.Outcome State Fault Refusal :=
  coreStep (Config.stopWake s.stopWakeReads) (beginStep s)

/-- `s` with an instruction placed at `pc`, in the opcode table's numbering, up to the longest instruction. The step that
follows fetches it when `s` is running, is not locked, has no other agent's writes to come, and has no interrupt to
dispatch, all of which hold of `State.reset`. -/
def State.withFetchWord (s : State) (nbits w : Nat) : State :=
  { s with mem := placeBytes s.pc (tableWordBytes nbits w) s.mem }

end Sys2Proof.Machine
end

