-- ==== Sys2Proof/Certificates/Slice0/Forms.lean ====
section
/-! DEFINITION. The vocabulary of the statements: which constructors make up each family of the spec, with their
operands, and what the spec's tables say of each instruction (R29, R31, R68, R393). The tables `storedAddrs`,
`surcharge` and `facts` have an arm per constructor: reduce them by `rfl`, `change` or `decide`, since `simp` is slow to
unfold them. -/

namespace Sys2Proof.Forms

/-- `LD r8,r8'`: destination and source (R161). -/
def ldRegReg : List (Instr × Reg8 × Reg8) :=
  List.flatten [
    [(.ldBB, .b, .b), (.ldBC, .b, .c), (.ldBD, .b, .d), (.ldBE, .b, .e),
     (.ldBH, .b, .h), (.ldBL, .b, .l), (.ldBA, .b, .a)],
    [(.ldCB, .c, .b), (.ldCC, .c, .c), (.ldCD, .c, .d), (.ldCE, .c, .e),
     (.ldCH, .c, .h), (.ldCL, .c, .l), (.ldCA, .c, .a)],
    [(.ldDB, .d, .b), (.ldDC, .d, .c), (.ldDD, .d, .d), (.ldDE, .d, .e),
     (.ldDH, .d, .h), (.ldDL, .d, .l), (.ldDA, .d, .a)],
    [(.ldEB, .e, .b), (.ldEC, .e, .c), (.ldED, .e, .d), (.ldEE, .e, .e),
     (.ldEH, .e, .h), (.ldEL, .e, .l), (.ldEA, .e, .a)],
    [(.ldHB, .h, .b), (.ldHC, .h, .c), (.ldHD, .h, .d), (.ldHE, .h, .e),
     (.ldHH, .h, .h), (.ldHL, .h, .l), (.ldHA, .h, .a)],
    [(.ldLB, .l, .b), (.ldLC, .l, .c), (.ldLD, .l, .d), (.ldLE, .l, .e),
     (.ldLH, .l, .h), (.ldLL, .l, .l), (.ldLA, .l, .a)],
    [(.ldAB, .a, .b), (.ldAC, .a, .c), (.ldAD, .a, .d), (.ldAE, .a, .e),
     (.ldAH, .a, .h), (.ldAL, .a, .l), (.ldAA, .a, .a)]]

/-- `LD r8,n8` (R162). -/
def ldRegImm : List ((Byte → Instr) × Reg8) :=
  [(.ldBN8, .b), (.ldCN8, .c), (.ldDN8, .d), (.ldEN8, .e),
   (.ldHN8, .h), (.ldLN8, .l), (.ldAN8, .a)]

/-- `LD r8,(HL)` (R163). -/
def ldRegInd : List (Instr × Reg8) :=
  [(.ldBIndHl, .b), (.ldCIndHl, .c), (.ldDIndHl, .d), (.ldEIndHl, .e),
   (.ldHIndHl, .h), (.ldLIndHl, .l), (.ldAIndHl, .a)]

/-- `LD (HL),r8` (R164). -/
def ldIndReg : List (Instr × Reg8) :=
  [(.ldIndHlB, .b), (.ldIndHlC, .c), (.ldIndHlD, .d), (.ldIndHlE, .e),
   (.ldIndHlH, .h), (.ldIndHlL, .l), (.ldIndHlA, .a)]

/-- `LD r16,n16` (R191). -/
def ldPairImm : List ((Word → Instr) × Reg16) :=
  [(.ldBcN16, .bc), (.ldDeN16, .de), (.ldHlN16, .hl), (.ldSpN16, .sp)]

/-- `PUSH r16s` (R194, R195). -/
def pushPair : List (Instr × StackReg) :=
  [(.pushBc, .bc), (.pushDe, .de), (.pushHl, .hl), (.pushAf, .af)]

/-- `POP r16s` (R196, R197). -/
def popPair : List (Instr × StackReg) :=
  [(.popBc, .bc), (.popDe, .de), (.popHl, .hl), (.popAf, .af)]

/-- The accumulator operations on a register (R210). -/
def aluReg : List (Instr × AluOp × Reg8) :=
  List.flatten [
    [(.addAB, .add, .b), (.addAC, .add, .c), (.addAD, .add, .d), (.addAE, .add, .e),
     (.addAH, .add, .h), (.addAL, .add, .l), (.addAA, .add, .a)],
    [(.adcAB, .adc, .b), (.adcAC, .adc, .c), (.adcAD, .adc, .d), (.adcAE, .adc, .e),
     (.adcAH, .adc, .h), (.adcAL, .adc, .l), (.adcAA, .adc, .a)],
    [(.subAB, .sub, .b), (.subAC, .sub, .c), (.subAD, .sub, .d), (.subAE, .sub, .e),
     (.subAH, .sub, .h), (.subAL, .sub, .l), (.subAA, .sub, .a)],
    [(.sbcAB, .sbc, .b), (.sbcAC, .sbc, .c), (.sbcAD, .sbc, .d), (.sbcAE, .sbc, .e),
     (.sbcAH, .sbc, .h), (.sbcAL, .sbc, .l), (.sbcAA, .sbc, .a)],
    [(.andAB, .and, .b), (.andAC, .and, .c), (.andAD, .and, .d), (.andAE, .and, .e),
     (.andAH, .and, .h), (.andAL, .and, .l), (.andAA, .and, .a)],
    [(.xorAB, .xor, .b), (.xorAC, .xor, .c), (.xorAD, .xor, .d), (.xorAE, .xor, .e),
     (.xorAH, .xor, .h), (.xorAL, .xor, .l), (.xorAA, .xor, .a)],
    [(.orAB, .or, .b), (.orAC, .or, .c), (.orAD, .or, .d), (.orAE, .or, .e),
     (.orAH, .or, .h), (.orAL, .or, .l), (.orAA, .or, .a)],
    [(.cpAB, .cp, .b), (.cpAC, .cp, .c), (.cpAD, .cp, .d), (.cpAE, .cp, .e),
     (.cpAH, .cp, .h), (.cpAL, .cp, .l), (.cpAA, .cp, .a)]]

/-- The accumulator operations on `(HL)` (R210). -/
def aluInd : List (Instr × AluOp) :=
  [(.addAIndHl, .add), (.adcAIndHl, .adc), (.subAIndHl, .sub), (.sbcAIndHl, .sbc),
   (.andAIndHl, .and), (.xorAIndHl, .xor), (.orAIndHl, .or), (.cpAIndHl, .cp)]

/-- The accumulator operations on `n8` (R210). -/
def aluImm : List ((Byte → Instr) × AluOp) :=
  [(.addAN8, .add), (.adcAN8, .adc), (.subAN8, .sub), (.sbcAN8, .sbc),
   (.andAN8, .and), (.xorAN8, .xor), (.orAN8, .or), (.cpAN8, .cp)]

/-- `INC r8` (R219). -/
def incReg : List (Instr × Reg8) :=
  [(.incB, .b), (.incC, .c), (.incD, .d), (.incE, .e),
   (.incH, .h), (.incL, .l), (.incA, .a)]

/-- `DEC r8` (R221). -/
def decReg : List (Instr × Reg8) :=
  [(.decB, .b), (.decC, .c), (.decD, .d), (.decE, .e),
   (.decH, .h), (.decL, .l), (.decA, .a)]

/-- `INC r16` (R250). -/
def incPair : List (Instr × Reg16) :=
  [(.incBc, .bc), (.incDe, .de), (.incHl, .hl), (.incSp, .sp)]

/-- `DEC r16` (R251). -/
def decPair : List (Instr × Reg16) :=
  [(.decBc, .bc), (.decDe, .de), (.decHl, .hl), (.decSp, .sp)]

/-- `ADD HL,r16` (R252). -/
def addHl : List (Instr × Reg16) :=
  [(.addHlBc, .bc), (.addHlDe, .de), (.addHlHl, .hl), (.addHlSp, .sp)]

/-- `JP cc,n16` (R267). -/
def jpCond : List ((Word → Instr) × Cond) :=
  [(.jpNzN16, .nz), (.jpZN16, .z), (.jpNcN16, .nc), (.jpCN16, .c)]

/-- `JR cc,e8` (R270). -/
def jrCond : List ((Byte → Instr) × Cond) :=
  [(.jrNzE8, .nz), (.jrZE8, .z), (.jrNcE8, .nc), (.jrCE8, .c)]

/-- `CALL cc,n16` (R272). -/
def callCond : List ((Word → Instr) × Cond) :=
  [(.callNzN16, .nz), (.callZN16, .z), (.callNcN16, .nc), (.callCN16, .c)]

/-- `RET cc` (R274). -/
def retCond : List (Instr × Cond) :=
  [(.retNz, .nz), (.retZ, .z), (.retNc, .nc), (.retC, .c)]

/-- `RST vec`: the target (R278). -/
def rst : List (Instr × Nat) :=
  [(.rst00, 0x00), (.rst08, 0x08), (.rst10, 0x10), (.rst18, 0x18),
   (.rst20, 0x20), (.rst28, 0x28), (.rst30, 0x30), (.rst38, 0x38)]

/-- The short rotates of `A` (R304). -/
def rotateA : List (Instr × ShiftOp) :=
  [(.rlca, .rlc), (.rrca, .rrc), (.rla, .rl), (.rra, .rr)]

/-- The rotates, shifts and swap of a register (R309). -/
def shiftReg : List (Instr × ShiftOp × Reg8) :=
  List.flatten [
    [(.rlcB, .rlc, .b), (.rlcC, .rlc, .c), (.rlcD, .rlc, .d), (.rlcE, .rlc, .e),
     (.rlcH, .rlc, .h), (.rlcL, .rlc, .l), (.rlcA, .rlc, .a)],
    [(.rrcB, .rrc, .b), (.rrcC, .rrc, .c), (.rrcD, .rrc, .d), (.rrcE, .rrc, .e),
     (.rrcH, .rrc, .h), (.rrcL, .rrc, .l), (.rrcA, .rrc, .a)],
    [(.rlB, .rl, .b), (.rlC, .rl, .c), (.rlD, .rl, .d), (.rlE, .rl, .e),
     (.rlH, .rl, .h), (.rlL, .rl, .l), (.rlA, .rl, .a)],
    [(.rrB, .rr, .b), (.rrC, .rr, .c), (.rrD, .rr, .d), (.rrE, .rr, .e),
     (.rrH, .rr, .h), (.rrL, .rr, .l), (.rrA, .rr, .a)],
    [(.slaB, .sla, .b), (.slaC, .sla, .c), (.slaD, .sla, .d), (.slaE, .sla, .e),
     (.slaH, .sla, .h), (.slaL, .sla, .l), (.slaA, .sla, .a)],
    [(.sraB, .sra, .b), (.sraC, .sra, .c), (.sraD, .sra, .d), (.sraE, .sra, .e),
     (.sraH, .sra, .h), (.sraL, .sra, .l), (.sraA, .sra, .a)],
    [(.swapB, .swap, .b), (.swapC, .swap, .c), (.swapD, .swap, .d), (.swapE, .swap, .e),
     (.swapH, .swap, .h), (.swapL, .swap, .l), (.swapA, .swap, .a)],
    [(.srlB, .srl, .b), (.srlC, .srl, .c), (.srlD, .srl, .d), (.srlE, .srl, .e),
     (.srlH, .srl, .h), (.srlL, .srl, .l), (.srlA, .srl, .a)]]

/-- The rotates, shifts and swap of `(HL)` (R309). -/
def shiftInd : List (Instr × ShiftOp) :=
  [(.rlcIndHl, .rlc), (.rrcIndHl, .rrc), (.rlIndHl, .rl), (.rrIndHl, .rr),
   (.slaIndHl, .sla), (.sraIndHl, .sra), (.swapIndHl, .swap), (.srlIndHl, .srl)]

/-- `BIT n,r8`: the bit number and the register (R326). -/
def bitReg : List (Instr × Nat × Reg8) :=
  List.flatten [
    [(.bit0B, 0, .b), (.bit0C, 0, .c), (.bit0D, 0, .d), (.bit0E, 0, .e),
     (.bit0H, 0, .h), (.bit0L, 0, .l), (.bit0A, 0, .a)],
    [(.bit1B, 1, .b), (.bit1C, 1, .c), (.bit1D, 1, .d), (.bit1E, 1, .e),
     (.bit1H, 1, .h), (.bit1L, 1, .l), (.bit1A, 1, .a)],
    [(.bit2B, 2, .b), (.bit2C, 2, .c), (.bit2D, 2, .d), (.bit2E, 2, .e),
     (.bit2H, 2, .h), (.bit2L, 2, .l), (.bit2A, 2, .a)],
    [(.bit3B, 3, .b), (.bit3C, 3, .c), (.bit3D, 3, .d), (.bit3E, 3, .e),
     (.bit3H, 3, .h), (.bit3L, 3, .l), (.bit3A, 3, .a)],
    [(.bit4B, 4, .b), (.bit4C, 4, .c), (.bit4D, 4, .d), (.bit4E, 4, .e),
     (.bit4H, 4, .h), (.bit4L, 4, .l), (.bit4A, 4, .a)],
    [(.bit5B, 5, .b), (.bit5C, 5, .c), (.bit5D, 5, .d), (.bit5E, 5, .e),
     (.bit5H, 5, .h), (.bit5L, 5, .l), (.bit5A, 5, .a)],
    [(.bit6B, 6, .b), (.bit6C, 6, .c), (.bit6D, 6, .d), (.bit6E, 6, .e),
     (.bit6H, 6, .h), (.bit6L, 6, .l), (.bit6A, 6, .a)],
    [(.bit7B, 7, .b), (.bit7C, 7, .c), (.bit7D, 7, .d), (.bit7E, 7, .e),
     (.bit7H, 7, .h), (.bit7L, 7, .l), (.bit7A, 7, .a)]]

/-- `BIT n,(HL)`: the bit number (R327). -/
def bitInd : List (Instr × Nat) :=
  [(.bit0IndHl, 0), (.bit1IndHl, 1), (.bit2IndHl, 2), (.bit3IndHl, 3),
   (.bit4IndHl, 4), (.bit5IndHl, 5), (.bit6IndHl, 6), (.bit7IndHl, 7)]

/-- `RES n,r8`: the bit number and the register (R328). -/
def resReg : List (Instr × Nat × Reg8) :=
  List.flatten [
    [(.res0B, 0, .b), (.res0C, 0, .c), (.res0D, 0, .d), (.res0E, 0, .e),
     (.res0H, 0, .h), (.res0L, 0, .l), (.res0A, 0, .a)],
    [(.res1B, 1, .b), (.res1C, 1, .c), (.res1D, 1, .d), (.res1E, 1, .e),
     (.res1H, 1, .h), (.res1L, 1, .l), (.res1A, 1, .a)],
    [(.res2B, 2, .b), (.res2C, 2, .c), (.res2D, 2, .d), (.res2E, 2, .e),
     (.res2H, 2, .h), (.res2L, 2, .l), (.res2A, 2, .a)],
    [(.res3B, 3, .b), (.res3C, 3, .c), (.res3D, 3, .d), (.res3E, 3, .e),
     (.res3H, 3, .h), (.res3L, 3, .l), (.res3A, 3, .a)],
    [(.res4B, 4, .b), (.res4C, 4, .c), (.res4D, 4, .d), (.res4E, 4, .e),
     (.res4H, 4, .h), (.res4L, 4, .l), (.res4A, 4, .a)],
    [(.res5B, 5, .b), (.res5C, 5, .c), (.res5D, 5, .d), (.res5E, 5, .e),
     (.res5H, 5, .h), (.res5L, 5, .l), (.res5A, 5, .a)],
    [(.res6B, 6, .b), (.res6C, 6, .c), (.res6D, 6, .d), (.res6E, 6, .e),
     (.res6H, 6, .h), (.res6L, 6, .l), (.res6A, 6, .a)],
    [(.res7B, 7, .b), (.res7C, 7, .c), (.res7D, 7, .d), (.res7E, 7, .e),
     (.res7H, 7, .h), (.res7L, 7, .l), (.res7A, 7, .a)]]

/-- `RES n,(HL)`: the bit number (R329). -/
def resInd : List (Instr × Nat) :=
  [(.res0IndHl, 0), (.res1IndHl, 1), (.res2IndHl, 2), (.res3IndHl, 3),
   (.res4IndHl, 4), (.res5IndHl, 5), (.res6IndHl, 6), (.res7IndHl, 7)]

/-- `SET n,r8`: the bit number and the register (R330). -/
def setReg : List (Instr × Nat × Reg8) :=
  List.flatten [
    [(.set0B, 0, .b), (.set0C, 0, .c), (.set0D, 0, .d), (.set0E, 0, .e),
     (.set0H, 0, .h), (.set0L, 0, .l), (.set0A, 0, .a)],
    [(.set1B, 1, .b), (.set1C, 1, .c), (.set1D, 1, .d), (.set1E, 1, .e),
     (.set1H, 1, .h), (.set1L, 1, .l), (.set1A, 1, .a)],
    [(.set2B, 2, .b), (.set2C, 2, .c), (.set2D, 2, .d), (.set2E, 2, .e),
     (.set2H, 2, .h), (.set2L, 2, .l), (.set2A, 2, .a)],
    [(.set3B, 3, .b), (.set3C, 3, .c), (.set3D, 3, .d), (.set3E, 3, .e),
     (.set3H, 3, .h), (.set3L, 3, .l), (.set3A, 3, .a)],
    [(.set4B, 4, .b), (.set4C, 4, .c), (.set4D, 4, .d), (.set4E, 4, .e),
     (.set4H, 4, .h), (.set4L, 4, .l), (.set4A, 4, .a)],
    [(.set5B, 5, .b), (.set5C, 5, .c), (.set5D, 5, .d), (.set5E, 5, .e),
     (.set5H, 5, .h), (.set5L, 5, .l), (.set5A, 5, .a)],
    [(.set6B, 6, .b), (.set6C, 6, .c), (.set6D, 6, .d), (.set6E, 6, .e),
     (.set6H, 6, .h), (.set6L, 6, .l), (.set6A, 6, .a)],
    [(.set7B, 7, .b), (.set7C, 7, .c), (.set7D, 7, .d), (.set7E, 7, .e),
     (.set7H, 7, .h), (.set7L, 7, .l), (.set7A, 7, .a)]]

/-- `SET n,(HL)`: the bit number (R331). -/
def setInd : List (Instr × Nat) :=
  [(.set0IndHl, 0), (.set1IndHl, 1), (.set2IndHl, 2), (.set3IndHl, 3),
   (.set4IndHl, 4), (.set5IndHl, 5), (.set6IndHl, 6), (.set7IndHl, 7)]

/-- The eleven illegal first bytes (R107, R295). -/
def illegal : List (Instr × Byte) :=
  [(.illegalD3, 0xD3), (.illegalDB, 0xDB), (.illegalDD, 0xDD), (.illegalE3, 0xE3),
   (.illegalE4, 0xE4), (.illegalEB, 0xEB), (.illegalEC, 0xEC), (.illegalED, 0xED),
   (.illegalF4, 0xF4), (.illegalFC, 0xFC), (.illegalFD, 0xFD)]

/-- The addresses an instruction stores to, in the state its executor starts from (the Bus lines of `41` to `47`, R68). The
prefix byte stands for all of Table B, which stores at `HL` or nowhere. -/
def storedAddrs (i : Instr) (s : Machine.State) : List Word :=
  match i with
  | .ldIndHliA | .ldIndHldA | .incIndHl | .decIndHl | .ldIndHlN8 _ | .ldIndHlB | .ldIndHlC | .ldIndHlD
  | .ldIndHlE | .ldIndHlH | .ldIndHlL | .ldIndHlA | .prefixCb | .rlcIndHl | .rrcIndHl | .rlIndHl | .rrIndHl
  | .slaIndHl | .sraIndHl | .swapIndHl | .srlIndHl | .res0IndHl | .res1IndHl | .res2IndHl | .res3IndHl
  | .res4IndHl | .res5IndHl | .res6IndHl | .res7IndHl | .set0IndHl | .set1IndHl | .set2IndHl | .set3IndHl
  | .set4IndHl | .set5IndHl | .set6IndHl | .set7IndHl => [s.hl]
  | .ldIndBcA => [s.reg16 .bc]
  | .ldIndDeA => [s.reg16 .de]
  | .ldIndN16A n => [n]
  | .ldhIndN8A n => [Machine.highPage n]
  | .ldhIndCA => [Machine.highPage s.c]
  | .ldIndN16Sp n => [n, n + 1]
  | .pushBc | .rst00 | .callN16 _ | .rst08 | .pushDe | .rst10 | .rst18 | .pushHl | .rst20 | .rst28 | .pushAf
  | .rst30 | .rst38 => [s.sp - 1, s.sp - 2]
  | .callNzN16 _ => if s.cond .nz then [s.sp - 1, s.sp - 2] else []
  | .callZN16 _ => if s.cond .z then [s.sp - 1, s.sp - 2] else []
  | .callNcN16 _ => if s.cond .nc then [s.sp - 1, s.sp - 2] else []
  | .callCN16 _ => if s.cond .c then [s.sp - 1, s.sp - 2] else []
  | _ => []

/-- The m-cycles a taken conditional adds to its base cost (R393). -/
def surcharge (i : Instr) (s : Machine.State) : Nat :=
  match i with
  | .jrNzE8 _ => if s.cond .nz then 1 else 0
  | .jrZE8 _ => if s.cond .z then 1 else 0
  | .jrNcE8 _ => if s.cond .nc then 1 else 0
  | .jrCE8 _ => if s.cond .c then 1 else 0
  | .jpNzN16 _ => if s.cond .nz then 1 else 0
  | .jpZN16 _ => if s.cond .z then 1 else 0
  | .jpNcN16 _ => if s.cond .nc then 1 else 0
  | .jpCN16 _ => if s.cond .c then 1 else 0
  | .callNzN16 _ => if s.cond .nz then 3 else 0
  | .callZN16 _ => if s.cond .z then 3 else 0
  | .callNcN16 _ => if s.cond .nc then 3 else 0
  | .callCN16 _ => if s.cond .c then 3 else 0
  | .retNz => if s.cond .nz then 3 else 0
  | .retZ => if s.cond .z then 3 else 0
  | .retNc => if s.cond .nc then 3 else 0
  | .retC => if s.cond .c then 3 else 0
  | _ => 0

/-- What an instruction does to one flag, in the signs of R31. -/
inductive FlagEffect where
  /-- `0` -/
  | cleared
  /-- `1` -/
  | set
  /-- `-` -/
  | kept
  /-- `~C` -/
  | complemented
  /-- `*` -/
  | computed
  deriving DecidableEq, Repr

/-- One row of the table of R31. -/
structure FlagRow where
  z : FlagEffect
  n : FlagEffect
  h : FlagEffect
  c : FlagEffect
  deriving DecidableEq, Repr

/-- `ADD`, `ADC` (R31). -/
def addRow : FlagRow := ⟨.computed, .cleared, .computed, .computed⟩

/-- `SUB`, `SBC`, `CP` (R31). -/
def subRow : FlagRow := ⟨.computed, .set, .computed, .computed⟩

/-- `AND` (R31). -/
def andRow : FlagRow := ⟨.computed, .cleared, .set, .cleared⟩

/-- `XOR`, `OR`, `SWAP` (R31). -/
def orRow : FlagRow := ⟨.computed, .cleared, .cleared, .cleared⟩

/-- `INC` (R31). -/
def incRow : FlagRow := ⟨.computed, .cleared, .computed, .kept⟩

/-- `DEC` (R31). -/
def decRow : FlagRow := ⟨.computed, .set, .computed, .kept⟩

/-- `DAA` (R31). -/
def daaRow : FlagRow := ⟨.computed, .kept, .cleared, .computed⟩

/-- `CPL` (R31). -/
def cplRow : FlagRow := ⟨.kept, .set, .set, .kept⟩

/-- `SCF` (R31). -/
def scfRow : FlagRow := ⟨.kept, .cleared, .cleared, .set⟩

/-- `CCF` (R31). -/
def ccfRow : FlagRow := ⟨.kept, .cleared, .cleared, .complemented⟩

/-- `ADD HL,r16` (R31). -/
def addHlRow : FlagRow := ⟨.kept, .cleared, .computed, .computed⟩

/-- `ADD SP,e8`, `LD HL,SP+e8` (R31). -/
def spOffsetRow : FlagRow := ⟨.cleared, .cleared, .computed, .computed⟩

/-- `RLCA`, `RRCA`, `RLA`, `RRA` (R31). -/
def shortRotateRow : FlagRow := ⟨.cleared, .cleared, .cleared, .computed⟩

/-- The rotates and shifts of Table B (R31). -/
def shiftRow : FlagRow := ⟨.computed, .cleared, .cleared, .computed⟩

/-- `BIT` (R31). -/
def bitRow : FlagRow := ⟨.computed, .cleared, .set, .kept⟩

/-- `POP AF` (R31). -/
def allRow : FlagRow := ⟨.computed, .computed, .computed, .computed⟩

/-- Every instruction not in the table (R31). -/
def keepRow : FlagRow := ⟨.kept, .kept, .kept, .kept⟩

/-- What the spec's tables say of one instruction: the 8-bit registers it may write (the Operation lines of `41` to `47`),
whether it may write `sp` (R26), whether it transfers control (R29, R30), and its row of R31. -/
structure Facts where
  regs : List Reg8
  sp : Bool
  control : Bool
  flags : FlagRow

/-- The facts of every row of the opcode table. The prefix byte stands for all of Table B. -/
def facts (i : Instr) : Facts :=
  match i with
  | .nop => ⟨[], false, false, keepRow⟩
  | .ldBcN16 _ => ⟨[.b, .c], false, false, keepRow⟩
  | .ldIndBcA => ⟨[], false, false, keepRow⟩
  | .incBc => ⟨[.b, .c], false, false, keepRow⟩
  | .incB => ⟨[.b], false, false, incRow⟩
  | .decB => ⟨[.b], false, false, decRow⟩
  | .ldBN8 _ => ⟨[.b], false, false, keepRow⟩
  | .rlca => ⟨[.a], false, false, shortRotateRow⟩
  | .ldIndN16Sp _ => ⟨[], false, false, keepRow⟩
  | .addHlBc => ⟨[.h, .l], false, false, addHlRow⟩
  | .ldAIndBc => ⟨[.a], false, false, keepRow⟩
  | .decBc => ⟨[.b, .c], false, false, keepRow⟩
  | .incC => ⟨[.c], false, false, incRow⟩
  | .decC => ⟨[.c], false, false, decRow⟩
  | .ldCN8 _ => ⟨[.c], false, false, keepRow⟩
  | .rrca => ⟨[.a], false, false, shortRotateRow⟩
  | .stop _ => ⟨[], false, false, keepRow⟩
  | .ldDeN16 _ => ⟨[.d, .e], false, false, keepRow⟩
  | .ldIndDeA => ⟨[], false, false, keepRow⟩
  | .incDe => ⟨[.d, .e], false, false, keepRow⟩
  | .incD => ⟨[.d], false, false, incRow⟩
  | .decD => ⟨[.d], false, false, decRow⟩
  | .ldDN8 _ => ⟨[.d], false, false, keepRow⟩
  | .rla => ⟨[.a], false, false, shortRotateRow⟩
  | .jrE8 _ => ⟨[], false, true, keepRow⟩
  | .addHlDe => ⟨[.h, .l], false, false, addHlRow⟩
  | .ldAIndDe => ⟨[.a], false, false, keepRow⟩
  | .decDe => ⟨[.d, .e], false, false, keepRow⟩
  | .incE => ⟨[.e], false, false, incRow⟩
  | .decE => ⟨[.e], false, false, decRow⟩
  | .ldEN8 _ => ⟨[.e], false, false, keepRow⟩
  | .rra => ⟨[.a], false, false, shortRotateRow⟩
  | .jrNzE8 _ => ⟨[], false, true, keepRow⟩
  | .ldHlN16 _ => ⟨[.h, .l], false, false, keepRow⟩
  | .ldIndHliA => ⟨[.h, .l], false, false, keepRow⟩
  | .incHl => ⟨[.h, .l], false, false, keepRow⟩
  | .incH => ⟨[.h], false, false, incRow⟩
  | .decH => ⟨[.h], false, false, decRow⟩
  | .ldHN8 _ => ⟨[.h], false, false, keepRow⟩
  | .daa => ⟨[.a], false, false, daaRow⟩
  | .jrZE8 _ => ⟨[], false, true, keepRow⟩
  | .addHlHl => ⟨[.h, .l], false, false, addHlRow⟩
  | .ldAIndHli => ⟨[.a, .h, .l], false, false, keepRow⟩
  | .decHl => ⟨[.h, .l], false, false, keepRow⟩
  | .incL => ⟨[.l], false, false, incRow⟩
  | .decL => ⟨[.l], false, false, decRow⟩
  | .ldLN8 _ => ⟨[.l], false, false, keepRow⟩
  | .cpl => ⟨[.a], false, false, cplRow⟩
  | .jrNcE8 _ => ⟨[], false, true, keepRow⟩
  | .ldSpN16 _ => ⟨[], true, false, keepRow⟩
  | .ldIndHldA => ⟨[.h, .l], false, false, keepRow⟩
  | .incSp => ⟨[], true, false, keepRow⟩
  | .incIndHl => ⟨[], false, false, incRow⟩
  | .decIndHl => ⟨[], false, false, decRow⟩
  | .ldIndHlN8 _ => ⟨[], false, false, keepRow⟩
  | .scf => ⟨[], false, false, scfRow⟩
  | .jrCE8 _ => ⟨[], false, true, keepRow⟩
  | .addHlSp => ⟨[.h, .l], false, false, addHlRow⟩
  | .ldAIndHld => ⟨[.a, .h, .l], false, false, keepRow⟩
  | .decSp => ⟨[], true, false, keepRow⟩
  | .incA => ⟨[.a], false, false, incRow⟩
  | .decA => ⟨[.a], false, false, decRow⟩
  | .ldAN8 _ => ⟨[.a], false, false, keepRow⟩
  | .ccf => ⟨[], false, false, ccfRow⟩
  | .ldBB => ⟨[.b], false, false, keepRow⟩
  | .ldBC => ⟨[.b], false, false, keepRow⟩
  | .ldBD => ⟨[.b], false, false, keepRow⟩
  | .ldBE => ⟨[.b], false, false, keepRow⟩
  | .ldBH => ⟨[.b], false, false, keepRow⟩
  | .ldBL => ⟨[.b], false, false, keepRow⟩
  | .ldBIndHl => ⟨[.b], false, false, keepRow⟩
  | .ldBA => ⟨[.b], false, false, keepRow⟩
  | .ldCB => ⟨[.c], false, false, keepRow⟩
  | .ldCC => ⟨[.c], false, false, keepRow⟩
  | .ldCD => ⟨[.c], false, false, keepRow⟩
  | .ldCE => ⟨[.c], false, false, keepRow⟩
  | .ldCH => ⟨[.c], false, false, keepRow⟩
  | .ldCL => ⟨[.c], false, false, keepRow⟩
  | .ldCIndHl => ⟨[.c], false, false, keepRow⟩
  | .ldCA => ⟨[.c], false, false, keepRow⟩
  | .ldDB => ⟨[.d], false, false, keepRow⟩
  | .ldDC => ⟨[.d], false, false, keepRow⟩
  | .ldDD => ⟨[.d], false, false, keepRow⟩
  | .ldDE => ⟨[.d], false, false, keepRow⟩
  | .ldDH => ⟨[.d], false, false, keepRow⟩
  | .ldDL => ⟨[.d], false, false, keepRow⟩
  | .ldDIndHl => ⟨[.d], false, false, keepRow⟩
  | .ldDA => ⟨[.d], false, false, keepRow⟩
  | .ldEB => ⟨[.e], false, false, keepRow⟩
  | .ldEC => ⟨[.e], false, false, keepRow⟩
  | .ldED => ⟨[.e], false, false, keepRow⟩
  | .ldEE => ⟨[.e], false, false, keepRow⟩
  | .ldEH => ⟨[.e], false, false, keepRow⟩
  | .ldEL => ⟨[.e], false, false, keepRow⟩
  | .ldEIndHl => ⟨[.e], false, false, keepRow⟩
  | .ldEA => ⟨[.e], false, false, keepRow⟩
  | .ldHB => ⟨[.h], false, false, keepRow⟩
  | .ldHC => ⟨[.h], false, false, keepRow⟩
  | .ldHD => ⟨[.h], false, false, keepRow⟩
  | .ldHE => ⟨[.h], false, false, keepRow⟩
  | .ldHH => ⟨[.h], false, false, keepRow⟩
  | .ldHL => ⟨[.h], false, false, keepRow⟩
  | .ldHIndHl => ⟨[.h], false, false, keepRow⟩
  | .ldHA => ⟨[.h], false, false, keepRow⟩
  | .ldLB => ⟨[.l], false, false, keepRow⟩
  | .ldLC => ⟨[.l], false, false, keepRow⟩
  | .ldLD => ⟨[.l], false, false, keepRow⟩
  | .ldLE => ⟨[.l], false, false, keepRow⟩
  | .ldLH => ⟨[.l], false, false, keepRow⟩
  | .ldLL => ⟨[.l], false, false, keepRow⟩
  | .ldLIndHl => ⟨[.l], false, false, keepRow⟩
  | .ldLA => ⟨[.l], false, false, keepRow⟩
  | .ldIndHlB => ⟨[], false, false, keepRow⟩
  | .ldIndHlC => ⟨[], false, false, keepRow⟩
  | .ldIndHlD => ⟨[], false, false, keepRow⟩
  | .ldIndHlE => ⟨[], false, false, keepRow⟩
  | .ldIndHlH => ⟨[], false, false, keepRow⟩
  | .ldIndHlL => ⟨[], false, false, keepRow⟩
  | .halt => ⟨[], false, false, keepRow⟩
  | .ldIndHlA => ⟨[], false, false, keepRow⟩
  | .ldAB => ⟨[.a], false, false, keepRow⟩
  | .ldAC => ⟨[.a], false, false, keepRow⟩
  | .ldAD => ⟨[.a], false, false, keepRow⟩
  | .ldAE => ⟨[.a], false, false, keepRow⟩
  | .ldAH => ⟨[.a], false, false, keepRow⟩
  | .ldAL => ⟨[.a], false, false, keepRow⟩
  | .ldAIndHl => ⟨[.a], false, false, keepRow⟩
  | .ldAA => ⟨[.a], false, false, keepRow⟩
  | .addAB => ⟨[.a], false, false, addRow⟩
  | .addAC => ⟨[.a], false, false, addRow⟩
  | .addAD => ⟨[.a], false, false, addRow⟩
  | .addAE => ⟨[.a], false, false, addRow⟩
  | .addAH => ⟨[.a], false, false, addRow⟩
  | .addAL => ⟨[.a], false, false, addRow⟩
  | .addAIndHl => ⟨[.a], false, false, addRow⟩
  | .addAA => ⟨[.a], false, false, addRow⟩
  | .adcAB => ⟨[.a], false, false, addRow⟩
  | .adcAC => ⟨[.a], false, false, addRow⟩
  | .adcAD => ⟨[.a], false, false, addRow⟩
  | .adcAE => ⟨[.a], false, false, addRow⟩
  | .adcAH => ⟨[.a], false, false, addRow⟩
  | .adcAL => ⟨[.a], false, false, addRow⟩
  | .adcAIndHl => ⟨[.a], false, false, addRow⟩
  | .adcAA => ⟨[.a], false, false, addRow⟩
  | .subAB => ⟨[.a], false, false, subRow⟩
  | .subAC => ⟨[.a], false, false, subRow⟩
  | .subAD => ⟨[.a], false, false, subRow⟩
  | .subAE => ⟨[.a], false, false, subRow⟩
  | .subAH => ⟨[.a], false, false, subRow⟩
  | .subAL => ⟨[.a], false, false, subRow⟩
  | .subAIndHl => ⟨[.a], false, false, subRow⟩
  | .subAA => ⟨[.a], false, false, subRow⟩
  | .sbcAB => ⟨[.a], false, false, subRow⟩
  | .sbcAC => ⟨[.a], false, false, subRow⟩
  | .sbcAD => ⟨[.a], false, false, subRow⟩
  | .sbcAE => ⟨[.a], false, false, subRow⟩
  | .sbcAH => ⟨[.a], false, false, subRow⟩
  | .sbcAL => ⟨[.a], false, false, subRow⟩
  | .sbcAIndHl => ⟨[.a], false, false, subRow⟩
  | .sbcAA => ⟨[.a], false, false, subRow⟩
  | .andAB => ⟨[.a], false, false, andRow⟩
  | .andAC => ⟨[.a], false, false, andRow⟩
  | .andAD => ⟨[.a], false, false, andRow⟩
  | .andAE => ⟨[.a], false, false, andRow⟩
  | .andAH => ⟨[.a], false, false, andRow⟩
  | .andAL => ⟨[.a], false, false, andRow⟩
  | .andAIndHl => ⟨[.a], false, false, andRow⟩
  | .andAA => ⟨[.a], false, false, andRow⟩
  | .xorAB => ⟨[.a], false, false, orRow⟩
  | .xorAC => ⟨[.a], false, false, orRow⟩
  | .xorAD => ⟨[.a], false, false, orRow⟩
  | .xorAE => ⟨[.a], false, false, orRow⟩
  | .xorAH => ⟨[.a], false, false, orRow⟩
  | .xorAL => ⟨[.a], false, false, orRow⟩
  | .xorAIndHl => ⟨[.a], false, false, orRow⟩
  | .xorAA => ⟨[.a], false, false, orRow⟩
  | .orAB => ⟨[.a], false, false, orRow⟩
  | .orAC => ⟨[.a], false, false, orRow⟩
  | .orAD => ⟨[.a], false, false, orRow⟩
  | .orAE => ⟨[.a], false, false, orRow⟩
  | .orAH => ⟨[.a], false, false, orRow⟩
  | .orAL => ⟨[.a], false, false, orRow⟩
  | .orAIndHl => ⟨[.a], false, false, orRow⟩
  | .orAA => ⟨[.a], false, false, orRow⟩
  | .cpAB => ⟨[], false, false, subRow⟩
  | .cpAC => ⟨[], false, false, subRow⟩
  | .cpAD => ⟨[], false, false, subRow⟩
  | .cpAE => ⟨[], false, false, subRow⟩
  | .cpAH => ⟨[], false, false, subRow⟩
  | .cpAL => ⟨[], false, false, subRow⟩
  | .cpAIndHl => ⟨[], false, false, subRow⟩
  | .cpAA => ⟨[], false, false, subRow⟩
  | .retNz => ⟨[], true, true, keepRow⟩
  | .popBc => ⟨[.b, .c], true, false, keepRow⟩
  | .jpNzN16 _ => ⟨[], false, true, keepRow⟩
  | .jpN16 _ => ⟨[], false, true, keepRow⟩
  | .callNzN16 _ => ⟨[], true, true, keepRow⟩
  | .pushBc => ⟨[], true, false, keepRow⟩
  | .addAN8 _ => ⟨[.a], false, false, addRow⟩
  | .rst00 => ⟨[], true, true, keepRow⟩
  | .retZ => ⟨[], true, true, keepRow⟩
  | .ret => ⟨[], true, true, keepRow⟩
  | .jpZN16 _ => ⟨[], false, true, keepRow⟩
  | .prefixCb => ⟨[.b, .c, .d, .e, .h, .l, .a], false, false, allRow⟩
  | .callZN16 _ => ⟨[], true, true, keepRow⟩
  | .callN16 _ => ⟨[], true, true, keepRow⟩
  | .adcAN8 _ => ⟨[.a], false, false, addRow⟩
  | .rst08 => ⟨[], true, true, keepRow⟩
  | .retNc => ⟨[], true, true, keepRow⟩
  | .popDe => ⟨[.d, .e], true, false, keepRow⟩
  | .jpNcN16 _ => ⟨[], false, true, keepRow⟩
  | .illegalD3 => ⟨[], false, false, keepRow⟩
  | .callNcN16 _ => ⟨[], true, true, keepRow⟩
  | .pushDe => ⟨[], true, false, keepRow⟩
  | .subAN8 _ => ⟨[.a], false, false, subRow⟩
  | .rst10 => ⟨[], true, true, keepRow⟩
  | .retC => ⟨[], true, true, keepRow⟩
  | .reti => ⟨[], true, true, keepRow⟩
  | .jpCN16 _ => ⟨[], false, true, keepRow⟩
  | .illegalDB => ⟨[], false, false, keepRow⟩
  | .callCN16 _ => ⟨[], true, true, keepRow⟩
  | .illegalDD => ⟨[], false, false, keepRow⟩
  | .sbcAN8 _ => ⟨[.a], false, false, subRow⟩
  | .rst18 => ⟨[], true, true, keepRow⟩
  | .ldhIndN8A _ => ⟨[], false, false, keepRow⟩
  | .popHl => ⟨[.h, .l], true, false, keepRow⟩
  | .ldhIndCA => ⟨[], false, false, keepRow⟩
  | .illegalE3 => ⟨[], false, false, keepRow⟩
  | .illegalE4 => ⟨[], false, false, keepRow⟩
  | .pushHl => ⟨[], true, false, keepRow⟩
  | .andAN8 _ => ⟨[.a], false, false, andRow⟩
  | .rst20 => ⟨[], true, true, keepRow⟩
  | .addSpE8 _ => ⟨[], true, false, spOffsetRow⟩
  | .jpHl => ⟨[], false, true, keepRow⟩
  | .ldIndN16A _ => ⟨[], false, false, keepRow⟩
  | .illegalEB => ⟨[], false, false, keepRow⟩
  | .illegalEC => ⟨[], false, false, keepRow⟩
  | .illegalED => ⟨[], false, false, keepRow⟩
  | .xorAN8 _ => ⟨[.a], false, false, orRow⟩
  | .rst28 => ⟨[], true, true, keepRow⟩
  | .ldhAIndN8 _ => ⟨[.a], false, false, keepRow⟩
  | .popAf => ⟨[.a], true, false, allRow⟩
  | .ldhAIndC => ⟨[.a], false, false, keepRow⟩
  | .di => ⟨[], false, false, keepRow⟩
  | .illegalF4 => ⟨[], false, false, keepRow⟩
  | .pushAf => ⟨[], true, false, keepRow⟩
  | .orAN8 _ => ⟨[.a], false, false, orRow⟩
  | .rst30 => ⟨[], true, true, keepRow⟩
  | .ldHlSpE8 _ => ⟨[.h, .l], false, false, spOffsetRow⟩
  | .ldSpHl => ⟨[], true, false, keepRow⟩
  | .ldAIndN16 _ => ⟨[.a], false, false, keepRow⟩
  | .ei => ⟨[], false, false, keepRow⟩
  | .illegalFC => ⟨[], false, false, keepRow⟩
  | .illegalFD => ⟨[], false, false, keepRow⟩
  | .cpAN8 _ => ⟨[], false, false, subRow⟩
  | .rst38 => ⟨[], true, true, keepRow⟩
  | .rlcB => ⟨[.b], false, false, shiftRow⟩
  | .rlcC => ⟨[.c], false, false, shiftRow⟩
  | .rlcD => ⟨[.d], false, false, shiftRow⟩
  | .rlcE => ⟨[.e], false, false, shiftRow⟩
  | .rlcH => ⟨[.h], false, false, shiftRow⟩
  | .rlcL => ⟨[.l], false, false, shiftRow⟩
  | .rlcIndHl => ⟨[], false, false, shiftRow⟩
  | .rlcA => ⟨[.a], false, false, shiftRow⟩
  | .rrcB => ⟨[.b], false, false, shiftRow⟩
  | .rrcC => ⟨[.c], false, false, shiftRow⟩
  | .rrcD => ⟨[.d], false, false, shiftRow⟩
  | .rrcE => ⟨[.e], false, false, shiftRow⟩
  | .rrcH => ⟨[.h], false, false, shiftRow⟩
  | .rrcL => ⟨[.l], false, false, shiftRow⟩
  | .rrcIndHl => ⟨[], false, false, shiftRow⟩
  | .rrcA => ⟨[.a], false, false, shiftRow⟩
  | .rlB => ⟨[.b], false, false, shiftRow⟩
  | .rlC => ⟨[.c], false, false, shiftRow⟩
  | .rlD => ⟨[.d], false, false, shiftRow⟩
  | .rlE => ⟨[.e], false, false, shiftRow⟩
  | .rlH => ⟨[.h], false, false, shiftRow⟩
  | .rlL => ⟨[.l], false, false, shiftRow⟩
  | .rlIndHl => ⟨[], false, false, shiftRow⟩
  | .rlA => ⟨[.a], false, false, shiftRow⟩
  | .rrB => ⟨[.b], false, false, shiftRow⟩
  | .rrC => ⟨[.c], false, false, shiftRow⟩
  | .rrD => ⟨[.d], false, false, shiftRow⟩
  | .rrE => ⟨[.e], false, false, shiftRow⟩
  | .rrH => ⟨[.h], false, false, shiftRow⟩
  | .rrL => ⟨[.l], false, false, shiftRow⟩
  | .rrIndHl => ⟨[], false, false, shiftRow⟩
  | .rrA => ⟨[.a], false, false, shiftRow⟩
  | .slaB => ⟨[.b], false, false, shiftRow⟩
  | .slaC => ⟨[.c], false, false, shiftRow⟩
  | .slaD => ⟨[.d], false, false, shiftRow⟩
  | .slaE => ⟨[.e], false, false, shiftRow⟩
  | .slaH => ⟨[.h], false, false, shiftRow⟩
  | .slaL => ⟨[.l], false, false, shiftRow⟩
  | .slaIndHl => ⟨[], false, false, shiftRow⟩
  | .slaA => ⟨[.a], false, false, shiftRow⟩
  | .sraB => ⟨[.b], false, false, shiftRow⟩
  | .sraC => ⟨[.c], false, false, shiftRow⟩
  | .sraD => ⟨[.d], false, false, shiftRow⟩
  | .sraE => ⟨[.e], false, false, shiftRow⟩
  | .sraH => ⟨[.h], false, false, shiftRow⟩
  | .sraL => ⟨[.l], false, false, shiftRow⟩
  | .sraIndHl => ⟨[], false, false, shiftRow⟩
  | .sraA => ⟨[.a], false, false, shiftRow⟩
  | .swapB => ⟨[.b], false, false, orRow⟩
  | .swapC => ⟨[.c], false, false, orRow⟩
  | .swapD => ⟨[.d], false, false, orRow⟩
  | .swapE => ⟨[.e], false, false, orRow⟩
  | .swapH => ⟨[.h], false, false, orRow⟩
  | .swapL => ⟨[.l], false, false, orRow⟩
  | .swapIndHl => ⟨[], false, false, orRow⟩
  | .swapA => ⟨[.a], false, false, orRow⟩
  | .srlB => ⟨[.b], false, false, shiftRow⟩
  | .srlC => ⟨[.c], false, false, shiftRow⟩
  | .srlD => ⟨[.d], false, false, shiftRow⟩
  | .srlE => ⟨[.e], false, false, shiftRow⟩
  | .srlH => ⟨[.h], false, false, shiftRow⟩
  | .srlL => ⟨[.l], false, false, shiftRow⟩
  | .srlIndHl => ⟨[], false, false, shiftRow⟩
  | .srlA => ⟨[.a], false, false, shiftRow⟩
  | .bit0B => ⟨[], false, false, bitRow⟩
  | .bit0C => ⟨[], false, false, bitRow⟩
  | .bit0D => ⟨[], false, false, bitRow⟩
  | .bit0E => ⟨[], false, false, bitRow⟩
  | .bit0H => ⟨[], false, false, bitRow⟩
  | .bit0L => ⟨[], false, false, bitRow⟩
  | .bit0IndHl => ⟨[], false, false, bitRow⟩
  | .bit0A => ⟨[], false, false, bitRow⟩
  | .bit1B => ⟨[], false, false, bitRow⟩
  | .bit1C => ⟨[], false, false, bitRow⟩
  | .bit1D => ⟨[], false, false, bitRow⟩
  | .bit1E => ⟨[], false, false, bitRow⟩
  | .bit1H => ⟨[], false, false, bitRow⟩
  | .bit1L => ⟨[], false, false, bitRow⟩
  | .bit1IndHl => ⟨[], false, false, bitRow⟩
  | .bit1A => ⟨[], false, false, bitRow⟩
  | .bit2B => ⟨[], false, false, bitRow⟩
  | .bit2C => ⟨[], false, false, bitRow⟩
  | .bit2D => ⟨[], false, false, bitRow⟩
  | .bit2E => ⟨[], false, false, bitRow⟩
  | .bit2H => ⟨[], false, false, bitRow⟩
  | .bit2L => ⟨[], false, false, bitRow⟩
  | .bit2IndHl => ⟨[], false, false, bitRow⟩
  | .bit2A => ⟨[], false, false, bitRow⟩
  | .bit3B => ⟨[], false, false, bitRow⟩
  | .bit3C => ⟨[], false, false, bitRow⟩
  | .bit3D => ⟨[], false, false, bitRow⟩
  | .bit3E => ⟨[], false, false, bitRow⟩
  | .bit3H => ⟨[], false, false, bitRow⟩
  | .bit3L => ⟨[], false, false, bitRow⟩
  | .bit3IndHl => ⟨[], false, false, bitRow⟩
  | .bit3A => ⟨[], false, false, bitRow⟩
  | .bit4B => ⟨[], false, false, bitRow⟩
  | .bit4C => ⟨[], false, false, bitRow⟩
  | .bit4D => ⟨[], false, false, bitRow⟩
  | .bit4E => ⟨[], false, false, bitRow⟩
  | .bit4H => ⟨[], false, false, bitRow⟩
  | .bit4L => ⟨[], false, false, bitRow⟩
  | .bit4IndHl => ⟨[], false, false, bitRow⟩
  | .bit4A => ⟨[], false, false, bitRow⟩
  | .bit5B => ⟨[], false, false, bitRow⟩
  | .bit5C => ⟨[], false, false, bitRow⟩
  | .bit5D => ⟨[], false, false, bitRow⟩
  | .bit5E => ⟨[], false, false, bitRow⟩
  | .bit5H => ⟨[], false, false, bitRow⟩
  | .bit5L => ⟨[], false, false, bitRow⟩
  | .bit5IndHl => ⟨[], false, false, bitRow⟩
  | .bit5A => ⟨[], false, false, bitRow⟩
  | .bit6B => ⟨[], false, false, bitRow⟩
  | .bit6C => ⟨[], false, false, bitRow⟩
  | .bit6D => ⟨[], false, false, bitRow⟩
  | .bit6E => ⟨[], false, false, bitRow⟩
  | .bit6H => ⟨[], false, false, bitRow⟩
  | .bit6L => ⟨[], false, false, bitRow⟩
  | .bit6IndHl => ⟨[], false, false, bitRow⟩
  | .bit6A => ⟨[], false, false, bitRow⟩
  | .bit7B => ⟨[], false, false, bitRow⟩
  | .bit7C => ⟨[], false, false, bitRow⟩
  | .bit7D => ⟨[], false, false, bitRow⟩
  | .bit7E => ⟨[], false, false, bitRow⟩
  | .bit7H => ⟨[], false, false, bitRow⟩
  | .bit7L => ⟨[], false, false, bitRow⟩
  | .bit7IndHl => ⟨[], false, false, bitRow⟩
  | .bit7A => ⟨[], false, false, bitRow⟩
  | .res0B => ⟨[.b], false, false, keepRow⟩
  | .res0C => ⟨[.c], false, false, keepRow⟩
  | .res0D => ⟨[.d], false, false, keepRow⟩
  | .res0E => ⟨[.e], false, false, keepRow⟩
  | .res0H => ⟨[.h], false, false, keepRow⟩
  | .res0L => ⟨[.l], false, false, keepRow⟩
  | .res0IndHl => ⟨[], false, false, keepRow⟩
  | .res0A => ⟨[.a], false, false, keepRow⟩
  | .res1B => ⟨[.b], false, false, keepRow⟩
  | .res1C => ⟨[.c], false, false, keepRow⟩
  | .res1D => ⟨[.d], false, false, keepRow⟩
  | .res1E => ⟨[.e], false, false, keepRow⟩
  | .res1H => ⟨[.h], false, false, keepRow⟩
  | .res1L => ⟨[.l], false, false, keepRow⟩
  | .res1IndHl => ⟨[], false, false, keepRow⟩
  | .res1A => ⟨[.a], false, false, keepRow⟩
  | .res2B => ⟨[.b], false, false, keepRow⟩
  | .res2C => ⟨[.c], false, false, keepRow⟩
  | .res2D => ⟨[.d], false, false, keepRow⟩
  | .res2E => ⟨[.e], false, false, keepRow⟩
  | .res2H => ⟨[.h], false, false, keepRow⟩
  | .res2L => ⟨[.l], false, false, keepRow⟩
  | .res2IndHl => ⟨[], false, false, keepRow⟩
  | .res2A => ⟨[.a], false, false, keepRow⟩
  | .res3B => ⟨[.b], false, false, keepRow⟩
  | .res3C => ⟨[.c], false, false, keepRow⟩
  | .res3D => ⟨[.d], false, false, keepRow⟩
  | .res3E => ⟨[.e], false, false, keepRow⟩
  | .res3H => ⟨[.h], false, false, keepRow⟩
  | .res3L => ⟨[.l], false, false, keepRow⟩
  | .res3IndHl => ⟨[], false, false, keepRow⟩
  | .res3A => ⟨[.a], false, false, keepRow⟩
  | .res4B => ⟨[.b], false, false, keepRow⟩
  | .res4C => ⟨[.c], false, false, keepRow⟩
  | .res4D => ⟨[.d], false, false, keepRow⟩
  | .res4E => ⟨[.e], false, false, keepRow⟩
  | .res4H => ⟨[.h], false, false, keepRow⟩
  | .res4L => ⟨[.l], false, false, keepRow⟩
  | .res4IndHl => ⟨[], false, false, keepRow⟩
  | .res4A => ⟨[.a], false, false, keepRow⟩
  | .res5B => ⟨[.b], false, false, keepRow⟩
  | .res5C => ⟨[.c], false, false, keepRow⟩
  | .res5D => ⟨[.d], false, false, keepRow⟩
  | .res5E => ⟨[.e], false, false, keepRow⟩
  | .res5H => ⟨[.h], false, false, keepRow⟩
  | .res5L => ⟨[.l], false, false, keepRow⟩
  | .res5IndHl => ⟨[], false, false, keepRow⟩
  | .res5A => ⟨[.a], false, false, keepRow⟩
  | .res6B => ⟨[.b], false, false, keepRow⟩
  | .res6C => ⟨[.c], false, false, keepRow⟩
  | .res6D => ⟨[.d], false, false, keepRow⟩
  | .res6E => ⟨[.e], false, false, keepRow⟩
  | .res6H => ⟨[.h], false, false, keepRow⟩
  | .res6L => ⟨[.l], false, false, keepRow⟩
  | .res6IndHl => ⟨[], false, false, keepRow⟩
  | .res6A => ⟨[.a], false, false, keepRow⟩
  | .res7B => ⟨[.b], false, false, keepRow⟩
  | .res7C => ⟨[.c], false, false, keepRow⟩
  | .res7D => ⟨[.d], false, false, keepRow⟩
  | .res7E => ⟨[.e], false, false, keepRow⟩
  | .res7H => ⟨[.h], false, false, keepRow⟩
  | .res7L => ⟨[.l], false, false, keepRow⟩
  | .res7IndHl => ⟨[], false, false, keepRow⟩
  | .res7A => ⟨[.a], false, false, keepRow⟩
  | .set0B => ⟨[.b], false, false, keepRow⟩
  | .set0C => ⟨[.c], false, false, keepRow⟩
  | .set0D => ⟨[.d], false, false, keepRow⟩
  | .set0E => ⟨[.e], false, false, keepRow⟩
  | .set0H => ⟨[.h], false, false, keepRow⟩
  | .set0L => ⟨[.l], false, false, keepRow⟩
  | .set0IndHl => ⟨[], false, false, keepRow⟩
  | .set0A => ⟨[.a], false, false, keepRow⟩
  | .set1B => ⟨[.b], false, false, keepRow⟩
  | .set1C => ⟨[.c], false, false, keepRow⟩
  | .set1D => ⟨[.d], false, false, keepRow⟩
  | .set1E => ⟨[.e], false, false, keepRow⟩
  | .set1H => ⟨[.h], false, false, keepRow⟩
  | .set1L => ⟨[.l], false, false, keepRow⟩
  | .set1IndHl => ⟨[], false, false, keepRow⟩
  | .set1A => ⟨[.a], false, false, keepRow⟩
  | .set2B => ⟨[.b], false, false, keepRow⟩
  | .set2C => ⟨[.c], false, false, keepRow⟩
  | .set2D => ⟨[.d], false, false, keepRow⟩
  | .set2E => ⟨[.e], false, false, keepRow⟩
  | .set2H => ⟨[.h], false, false, keepRow⟩
  | .set2L => ⟨[.l], false, false, keepRow⟩
  | .set2IndHl => ⟨[], false, false, keepRow⟩
  | .set2A => ⟨[.a], false, false, keepRow⟩
  | .set3B => ⟨[.b], false, false, keepRow⟩
  | .set3C => ⟨[.c], false, false, keepRow⟩
  | .set3D => ⟨[.d], false, false, keepRow⟩
  | .set3E => ⟨[.e], false, false, keepRow⟩
  | .set3H => ⟨[.h], false, false, keepRow⟩
  | .set3L => ⟨[.l], false, false, keepRow⟩
  | .set3IndHl => ⟨[], false, false, keepRow⟩
  | .set3A => ⟨[.a], false, false, keepRow⟩
  | .set4B => ⟨[.b], false, false, keepRow⟩
  | .set4C => ⟨[.c], false, false, keepRow⟩
  | .set4D => ⟨[.d], false, false, keepRow⟩
  | .set4E => ⟨[.e], false, false, keepRow⟩
  | .set4H => ⟨[.h], false, false, keepRow⟩
  | .set4L => ⟨[.l], false, false, keepRow⟩
  | .set4IndHl => ⟨[], false, false, keepRow⟩
  | .set4A => ⟨[.a], false, false, keepRow⟩
  | .set5B => ⟨[.b], false, false, keepRow⟩
  | .set5C => ⟨[.c], false, false, keepRow⟩
  | .set5D => ⟨[.d], false, false, keepRow⟩
  | .set5E => ⟨[.e], false, false, keepRow⟩
  | .set5H => ⟨[.h], false, false, keepRow⟩
  | .set5L => ⟨[.l], false, false, keepRow⟩
  | .set5IndHl => ⟨[], false, false, keepRow⟩
  | .set5A => ⟨[.a], false, false, keepRow⟩
  | .set6B => ⟨[.b], false, false, keepRow⟩
  | .set6C => ⟨[.c], false, false, keepRow⟩
  | .set6D => ⟨[.d], false, false, keepRow⟩
  | .set6E => ⟨[.e], false, false, keepRow⟩
  | .set6H => ⟨[.h], false, false, keepRow⟩
  | .set6L => ⟨[.l], false, false, keepRow⟩
  | .set6IndHl => ⟨[], false, false, keepRow⟩
  | .set6A => ⟨[.a], false, false, keepRow⟩
  | .set7B => ⟨[.b], false, false, keepRow⟩
  | .set7C => ⟨[.c], false, false, keepRow⟩
  | .set7D => ⟨[.d], false, false, keepRow⟩
  | .set7E => ⟨[.e], false, false, keepRow⟩
  | .set7H => ⟨[.h], false, false, keepRow⟩
  | .set7L => ⟨[.l], false, false, keepRow⟩
  | .set7IndHl => ⟨[], false, false, keepRow⟩
  | .set7A => ⟨[.a], false, false, keepRow⟩

end Sys2Proof.Forms
end

