-- ==== Sys2Proof/Safety.lean ====
section
/-! DEFINITION. The terms the statements use: the invariant of the machine, when a step runs an instruction, and the parts
of the state an instruction may leave alone. -/

namespace Sys2Proof.Machine

/-- What holds at reset and after every step: the low nibble of `F` is 0 (R23), memory has its canonical form, the two
counters run at four to one (R37), and without the `EI` delay no enable is ever pending (R34). -/
structure State.Inv (s : State) : Prop where
  lowNibble : s.f &&& 0x0F = 0
  memory : Memory.wf s.mem
  counters : s.tStates = 4 * s.mCycles
  noPending : Config.eiDelay = false → s.imePending = false

/-- The pending set as the bus would answer now (R346). -/
def State.pending (s : State) : Byte := pendingSet (s.readByte ieAddr) (s.readByte ifAddr)

/-- The next step of the core reaches the fetch: it is not locked, it is `Running`, and no interrupt is dispatched
(R137, R347). -/
def State.ReadyToExecute (s : State) : Prop :=
  s.locked = false ∧ s.mode = .running ∧ (s.ime = false ∨ s.pending = 0)

/-- The next step of the core dispatches an interrupt (R124, R347). -/
def State.ReadyToDispatch (s : State) : Prop :=
  s.locked = false ∧ s.mode = .running ∧ s.ime = true ∧ s.pending ≠ 0

/-- `s` with one more read transaction recorded. -/
def State.withRead (s : State) (addr : Word) : State :=
  { s with bus := s.bus ++ [.read addr (s.readByte addr)] }

/-- `s` after one write transaction. -/
def State.withWrite (s : State) (addr : Word) (v : Byte) : State :=
  { s with mem := Memory.write s.mem addr v, bus := s.bus ++ [.write addr v] }

/-- `s` after the two samples that begin a step: `IE`, then `IF` (R345). -/
def State.sampled (s : State) : State := (s.withRead ieAddr).withRead ifAddr

/-- `s` after the fetch of one more byte of an instruction (R130). -/
def State.fetchedByte (s : State) : State := { s.withRead s.pc with pc := s.pc + 1 }

/-- `s` after the fetch of `n` bytes of an instruction. -/
def State.fetched (s : State) (n : Nat) : State :=
  match n with
  | 0 => s
  | k + 1 => s.fetchedByte.fetched k

/-- The bytes stand at `pc`, the first at the lowest address. -/
def State.BytesAtPc (s : State) (bytes : List Byte) : Prop :=
  ∀ (k : Nat) (v : Byte), bytes[k]? = some v → s.readByte (s.pc + BitVec.ofNat 16 k) = v

/-- The bytes are the encoding of `i`: the encoder gives them, and wherever they stand at `pc` the fetch reads exactly them,
one by one, leaves `pc` after them, and gives `i` (R90, R123, R130, R131). -/
def EncodedBy (i : Instr) (bytes : List Byte) : Prop :=
  encode i = bytes ∧ ∀ s : State, s.BytesAtPc bytes → fetch s = (i, s.fetched bytes.length)

/-- The control state outside the interrupt enables is the same: the latch, the inputs and the outcome of the last
step. -/
def State.SameEnvironment (s t : State) : Prop :=
  t.locked = s.locked ∧ t.env = s.env ∧ t.stopWakeReads = s.stopWakeReads ∧ t.outcome = s.outcome

end Sys2Proof.Machine
end

