-- ==== Sys2Proof/Certificates/Slice0/Obligations.lean ====
section
/-! DEFINITION. The statements for the provers. A per-instruction statement gives the bytes of each instruction it names and
their fetch (`EncodedBy`), the base cost the step charges, and the whole next state, in the state its executor starts
from: `pc` after the instruction (R28), the fetch already recorded in `bus`. What the next state does not mention is
unchanged. The bytes are the spec's opcode map and the costs its cycle table, both of which the spec gives from general
knowledge (log entries 16 and 10). -/

open Sys2Proof Sys2Proof.Machine

/-! ## Encoding -/

/-- Decoding the bytes of a well-formed instruction gives it back, whatever bytes follow: no bit of an encoding is dropped
(`30_encoding.md`, R90 to R106). -/
def Obligations.DecodeAfterEncode : Prop :=
  ∀ (i : Instr) (rest : List Byte), i.wf = true → decode (encode i ++ rest) = .ok (i, rest)

/-- The other direction: a decoded instruction and the bytes left over make up the bytes read, and the prefix byte is
never what is decoded (`30_encoding.md`, R91, R123). -/
def Obligations.EncodeAfterDecode : Prop :=
  ∀ (bytes rest : List Byte) (i : Instr), decode bytes = .ok (i, rest) →
    encode i ++ rest = bytes ∧ i.isPrefixByte = false

/-- The anchors of R111, and one word of each other family, written out from the spec's encodings. -/
def Obligations.AnchorWordsDecode : Prop :=
  decode [0x06, 0x42] = .ok (.ldBN8 0x42, []) ∧ decode [0x80] = .ok (.addAB, []) ∧
  decode [0x3D] = .ok (.decA, []) ∧ decode [0xCD, 0x34, 0x12] = .ok (.callN16 0x1234, []) ∧
  decode [0xCB, 0x37] = .ok (.swapA, []) ∧ decode [0xB8] = .ok (.cpAB, []) ∧
  decode [0x31, 0xFE, 0xFF] = .ok (.ldSpN16 0xFFFE, []) ∧ decode [0xF8, 0xFE] = .ok (.ldHlSpE8 0xFE, []) ∧
  decode [0xEF] = .ok (.rst28, []) ∧ decode [0x10, 0x00] = .ok (.stop 0x00, []) ∧
  decode [0xCB, 0xCB] = .ok (.set1E, [])

/-- The first byte alone settles the length (R93). `0xCB` gives 2, an illegal byte gives no instruction, and no later
byte changes the length. -/
def Obligations.FirstByteSettlesLength : Prop :=
  ∀ (op : Byte) (tail tail' rest rest' : List Byte) (i j : Instr),
    decode (op :: tail) = .ok (i, rest) → decode (op :: tail') = .ok (j, rest') →
      (encode i).length = (encode j).length ∧ (op = 0xCB → (encode i).length = 2) ∧
      (∀ p, (p, op) ∈ Forms.illegal → i.wf = false)

/-- R107: a first byte is illegal exactly when it is one of the eleven, whatever bytes follow, and fetching one raises
the fault. -/
def Obligations.IllegalBytesExactly : Prop :=
  (∀ (op : Byte) (tail rest : List Byte) (i : Instr), decode (op :: tail) = .ok (i, rest) →
    (i.isIllegal = true ↔ ∃ p, (p, op) ∈ Forms.illegal)) ∧
  ∀ (i : Instr) (op : Byte), (i, op) ∈ Forms.illegal →
    (∀ tail, decode (op :: tail) = .ok (i, tail)) ∧
    ∀ s, exec i s = .fault (.illegalOpcode op false (s.pc - 1) { s with locked := true })

/-! ## Reset, registers, memory -/

/-- R380: the reset state, where the spec gives it. -/
def Obligations.ResetState : Prop :=
  let s := State.reset
  s.a = 0x01 ∧ s.f = 0x80 ∧ s.b = 0x00 ∧ s.c = 0x13 ∧ s.d = 0x00 ∧ s.e = 0xD8 ∧ s.h = 0x01 ∧ s.l = 0x4D ∧
  s.sp = 0xFFFE ∧ s.pc = 0x0100 ∧ s.ime = true ∧ s.mode = .running ∧ s.imePending = false ∧ s.locked = false ∧
  s.mCycles = 0 ∧ s.tStates = 0

/-- The open parameters of R44 and R383 (D15): whatever reset record is configured, the state it describes has its
register values, its counters and modes, its `IE` and `IF`, and its image everywhere else, the last of several bytes for
one address. A byte the image does not place is the free value of its address, in `State.reset` too, whose image is empty
(log entries 2 and 20). -/
def Obligations.ResetRecordIsHonoured : Prop :=
  (∀ r : Config.ResetRecord,
    let s := State.ofReset r
    s.a = r.a ∧ s.f = r.f ∧ s.b = r.b ∧ s.c = r.c ∧ s.d = r.d ∧ s.e = r.e ∧ s.h = r.h ∧ s.l = r.l ∧
    s.sp = r.sp ∧ s.pc = r.pc ∧ s.ime = r.ime ∧ s.imePending = r.imePending ∧ s.mode = r.mode ∧ s.locked = r.locked ∧
    s.mCycles = r.mCycles ∧ s.tStates = r.tStates ∧
    s.readByte ieAddr = r.ie ∧ s.readByte ifAddr = r.ifl ∧
    (∀ (before after : List (Word × Byte)) (a : Word) (v : Byte), r.image = before ++ (a, v) :: after →
      (∀ w, (a, w) ∉ after) → a ≠ ieAddr → a ≠ ifAddr → s.readByte a = v) ∧
    ∀ a : Word, (∀ v, (a, v) ∉ r.image) → a ≠ ieAddr → a ≠ ifAddr → s.readByte a = Config.unlistedByte a) ∧
  ∀ a : Word, a ≠ ieAddr → a ≠ ifAddr → State.reset.readByte a = Config.unlistedByte a

/-- The invariant holds at reset. -/
def Obligations.ResetMeetsInvariant : Prop := State.reset.Inv

/-- Every step keeps the invariant: the low nibble of `F` stays 0 (R23), memory keeps its canonical form, the counters
keep their ratio (R37), and nothing is pending without the `EI` delay (R34). -/
def Obligations.StepKeepsInvariant : Prop :=
  ∀ s t : State, s.Inv → step s = .next t → t.Inv

/-- R21: a pair is a view of two cells, the first-named one high, in the general group and in the stack group; and the
accessors of the 8-bit registers are the cells themselves (R20). -/
def Obligations.PairsAreViews : Prop :=
  ∀ (s : State) (w : Word) (v : Byte),
    (s.reg16 .bc).toNat = 256 * s.b.toNat + s.c.toNat ∧ (s.reg16 .de).toNat = 256 * s.d.toNat + s.e.toNat ∧
    (s.reg16 .hl).toNat = 256 * s.h.toNat + s.l.toNat ∧ s.hl = s.reg16 .hl ∧ s.reg16 .sp = s.sp ∧
    (∀ r, (s.setReg16 r w).reg16 r = w) ∧
    s.setReg16 .bc w = { s with b := w.extractLsb' 8 8, c := w.extractLsb' 0 8 } ∧
    s.setReg16 .de w = { s with d := w.extractLsb' 8 8, e := w.extractLsb' 0 8 } ∧
    s.setReg16 .hl w = { s with h := w.extractLsb' 8 8, l := w.extractLsb' 0 8 } ∧
    s.setReg16 .sp w = { s with sp := w } ∧
    (s.stackReg .bc).toNat = 256 * s.b.toNat + s.c.toNat ∧ (s.stackReg .de).toNat = 256 * s.d.toNat + s.e.toNat ∧
    (s.stackReg .hl).toNat = 256 * s.h.toNat + s.l.toNat ∧ (s.stackReg .af).toNat = 256 * s.a.toNat + s.readF.toNat ∧
    s.setStackReg .bc w = { s with b := w.extractLsb' 8 8, c := w.extractLsb' 0 8 } ∧
    s.setStackReg .de w = { s with d := w.extractLsb' 8 8, e := w.extractLsb' 0 8 } ∧
    s.setStackReg .hl w = { s with h := w.extractLsb' 8 8, l := w.extractLsb' 0 8 } ∧
    s.setStackReg .af w = ({ s with a := w.extractLsb' 8 8 }).writeF (w.extractLsb' 0 8) ∧
    s.reg8 .a = s.a ∧ s.reg8 .b = s.b ∧ s.reg8 .c = s.c ∧ s.reg8 .d = s.d ∧ s.reg8 .e = s.e ∧ s.reg8 .h = s.h ∧
    s.reg8 .l = s.l ∧
    s.setReg8 .a v = { s with a := v } ∧ s.setReg8 .b v = { s with b := v } ∧ s.setReg8 .c v = { s with c := v } ∧
    s.setReg8 .d v = { s with d := v } ∧ s.setReg8 .e v = { s with e := v } ∧ s.setReg8 .h v = { s with h := v } ∧
    s.setReg8 .l v = { s with l := v }

/-- Bits 3..0 of `F` read as 0 and are ignored on a write, by any path (R23). -/
def Obligations.FlagsLowNibbleIsZero : Prop :=
  ∀ (s : State) (v : Byte) (w : Word) (z n h c : Bool),
    s.readF &&& 0x0F = 0 ∧ (s.writeF v).f = v &&& 0xF0 ∧ (s.writeF v).readF = v &&& 0xF0 ∧
    s.stackReg .af &&& 0x000F = 0 ∧ (s.setStackReg .af w).stackReg .af = w &&& 0xFFF0 ∧
    (s.setStackReg .af w).f = w.extractLsb' 0 8 &&& 0xF0 ∧ (s.setFlags z n h c).f &&& 0x0F = 0

/-- R136: the four conditions read `Z` and `C`, at the places the layout of `F` gives the flags (R22), where a write of the
four flags puts them. -/
def Obligations.FlagPlaces : Prop :=
  ∀ (s : State) (z n h c : Bool),
    let t := s.setFlags z n h c
    s.flagZ = s.readF.getLsbD 7 ∧ s.flagN = s.readF.getLsbD 6 ∧ s.flagH = s.readF.getLsbD 5 ∧
    s.flagC = s.readF.getLsbD 4 ∧ t.flagZ = z ∧ t.flagN = n ∧ t.flagH = h ∧ t.flagC = c ∧
    t = { s with f := packFlags z n h c } ∧
    (s.cond .nz = true ↔ s.readF.getLsbD 7 = false) ∧ (s.cond .z = true ↔ s.readF.getLsbD 7 = true) ∧
    (s.cond .nc = true ↔ s.readF.getLsbD 4 = false) ∧ (s.cond .c = true ↔ s.readF.getLsbD 4 = true)

/-- Memory is a total map from addresses to bytes: a read gives the latest byte written, and the free value of the address
where none has been placed or written (R61, R70, R383, U10). A write lists its byte and leaves what every other address
lists alone, and two canonical memories that list the same are equal data. -/
def Obligations.MemoryIsBytesByAddress : Prop :=
  (∀ (s : State) (a b : Word) (v : Byte),
    (s.withWrite a v).readByte a = v ∧ (b ≠ a → (s.withWrite a v).readByte b = s.readByte b) ∧
    (Memory.lookup s.mem a = some v → s.readByte a = v) ∧
    (Memory.lookup s.mem a = none → s.readByte a = Config.unlistedByte a) ∧
    Memory.lookup (s.withWrite a v).mem b = if b = a then some v else Memory.lookup s.mem b) ∧
  ∀ m m' : Memory, Memory.wf m → Memory.wf m' → (∀ a : Word, Memory.lookup m a = Memory.lookup m' a) → m = m'

/-! ## The step -/

/-- A step runs the decoded instruction: when the next step of the core reaches the fetch and the bytes at `pc` decode to
`i`, the step samples `IE` and `IF`, fetches the bytes of `i` one by one, runs `exec i` with `pc` after them, charges
the base cost, and ends with the EI promotion (R123, R126, R127, R129). What another agent has written before the
step is already in `u`. -/
def Obligations.StepRunsDecodedInstruction : Prop :=
  ∀ (s u : State) (i : Instr) (rest : List Byte), beginStep s = u → u.ReadyToExecute →
    decode [u.readByte u.pc, u.readByte (u.pc + 1), u.readByte (u.pc + 2)] = .ok (i, rest) →
    step s = match exec i (u.sampled.fetched (encode i).length) with
      | .next t =>
        .next { promoteIme u.imePending (tick (baseCycles i) t) with outcome := some .executed }
      | .fault r => .fault r
      | .refused r => .refused r

/-- Between two steps the other agents change memory and nothing else, each address to the last byte they write
there; with none to act, nothing changes. The outputs of the last step are cleared
(R72, log entries 3 and 8). -/
def Obligations.OtherAgentsChangeOnlyMemory : Prop :=
  ∀ s : State,
    (s.env = [] → beginStep s = { s with bus := [], outcome := none }) ∧
    ∀ (writes : List (Word × Byte)) (later : List (List (Word × Byte))), s.env = writes :: later →
      beginStep s = { s with mem := (beginStep s).mem, bus := [], outcome := none, env := later } ∧
      (∀ a, (∀ v, (a, v) ∉ writes) → (beginStep s).readByte a = s.readByte a) ∧
      ∀ (first after : List (Word × Byte)) (a : Word) (v : Byte), writes = first ++ (a, v) :: after →
        (∀ w, (a, w) ∉ after) → (beginStep s).readByte a = v

/-- R121: a `Halted` step samples `IE` and `IF`. With nothing pending it idles for one m-cycle and changes nothing else.
With something pending, whatever `ime` is, it goes on as the step of a `Running` core does, with no idle cycle. -/
def Obligations.HaltedStep : Prop :=
  ∀ (w : Bool) (s : State), s.locked = false → s.mode = .halted →
    (s.pending = 0 → coreStep w s =
      .next { s.sampled with mCycles := s.mCycles + 1, tStates := s.tStates + 4, outcome := some .idle }) ∧
    (s.pending ≠ 0 → coreStep w s = coreStep w { s with mode := .running })

/-- A `Stopped` step reads `stop_wake` (R122). If it is false the step idles for one m-cycle, with no bus transaction and
nothing else changed. If it is true the step goes on as the step of a `Running` core does. That `step` takes the value
from `Config.stopWake`, of which nothing is known, and counts the reads, is the model's form of the open input (log entry
4, DESIGN CHOICE). -/
def Obligations.StoppedStep : Prop :=
  (∀ s : State, s.locked = false → s.mode = .stopped →
    coreStep false s = .next { s with
      mCycles := s.mCycles + 1, tStates := s.tStates + 4, outcome := some .idle,
      stopWakeReads := s.stopWakeReads + 1 } ∧
    coreStep true s = coreStep true { s with mode := .running, stopWakeReads := s.stopWakeReads + 1 }) ∧
  (∀ s : State, step s = coreStep (Config.stopWake s.stopWakeReads) (beginStep s)) ∧
  ∀ (w w' : Bool) (s : State), s.mode ≠ .stopped → coreStep w s = coreStep w' s

/-- R350: when an interrupt is to be dispatched and `n` is the lowest
pending bit, the step clears bit `n` of `IF`, clears `ime` and the pending enable, pushes `pc`, and goes to
`0x0040 + 8n`, in 5 m-cycles. It fetches nothing, and changes nothing else. -/
def Obligations.InterruptDispatch : Prop :=
  ∀ (w : Bool) (s : State) (n : Nat), s.ReadyToDispatch → n < 5 → s.pending.getLsbD n = true →
    (∀ k < n, s.pending.getLsbD k = false) →
    let ifl := s.readByte 0xFF0F
    let cleared := ifl &&& ~~~((1 : Byte) <<< n)
    coreStep w s = .next
      { (((s.sampled.withWrite 0xFF0F cleared).withWrite (s.sp - 1) (s.pc.extractLsb' 8 8)).withWrite
          (s.sp - 2) (s.pc.extractLsb' 0 8)) with
        sp := s.sp - 2
        pc := BitVec.ofNat 16 (0x0040 + 8 * n)
        ime := false
        imePending := false
        mCycles := s.mCycles + 5
        tStates := s.tStates + 20
        outcome := some (.dispatched n) }

/-- R295: when the step reaches the fetch and the byte at `pc` is illegal, it faults with that byte and
its address. The fault leaves `pc` one past the byte, the latch set, and nothing else changed. -/
def Obligations.IllegalByteFaults : Prop :=
  ∀ (w : Bool) (s : State) (i : Instr), s.ReadyToExecute → (i, s.readByte s.pc) ∈ Forms.illegal →
    coreStep w s =
      .fault (.illegalOpcode (s.readByte s.pc) false s.pc { s.sampled.fetchedByte with locked := true })

/-- A locked core has no step, whatever other agents do (R342, R137). -/
def Obligations.LockedCoreHasNoStep : Prop :=
  ∀ s : State, s.locked = true → step s = .fault .coreLocked

/-- The illegal bytes are the only reason a core that is not locked stops, and a step is never refused (R340). -/
def Obligations.OnlyIllegalBytesFault : Prop :=
  ∀ (w : Bool) (s : State), s.locked = false →
    (∃ t, coreStep w s = .next t) ∨
    ∃ i after, (i, s.readByte s.pc) ∈ Forms.illegal ∧
      coreStep w s = .fault (.illegalOpcode (s.readByte s.pc) false s.pc after)

/-- The `EI` delay over two steps, in the model's default `EI_DELAY = true` (R129, R294, log entry 5). A step that runs
`EI` with interrupts off and no enable pending leaves them off, with the enable pending. The next step dispatches
nothing, runs the instruction at `pc`, and ends with interrupts on, unless that instruction was `DI`, which leaves
them off. No other agent acts in between. -/
def Obligations.EnableAfterOneInstruction : Prop :=
  ∀ s t : State, s.env = [] → s.ReadyToExecute → s.ime = false → s.imePending = false → s.readByte s.pc = 0xFB →
    step s = .next t →
      t.pc = s.pc + 1 ∧ t.ime = false ∧ t.imePending = true ∧
      ∀ (u : State) (i : Instr) (rest : List Byte),
        decode [t.readByte t.pc, t.readByte (t.pc + 1), t.readByte (t.pc + 2)] = .ok (i, rest) → step t = .next u →
          u.outcome = some .executed ∧ u.ime = !decide (i = .di) ∧ u.imePending = false

/-! ## Rules over all instructions -/

/-- Every instruction completes, in every state and with every operand; only the eleven illegal bytes do not (R340,
R343). -/
def Obligations.EveryInstructionCompletes : Prop :=
  ∀ (i : Instr) (s : State), i.isIllegal = false → ∃ t, exec i s = .next t

/-- R31: every instruction clears, sets, keeps or complements each flag as the table says. What `*` stands for is
in the statements about the instruction. -/
def Obligations.FlagTable : Prop :=
  ∀ (i : Instr) (s t : State), exec i s = .next t →
    let row := (Forms.facts i).flags
    let holds := fun (effect : Forms.FlagEffect) (before after : Bool) =>
      (effect = .cleared → after = false) ∧ (effect = .set → after = true) ∧ (effect = .kept → after = before) ∧
      (effect = .complemented → after = !before)
    holds row.z s.flagZ t.flagZ ∧ holds row.n s.flagN t.flagN ∧ holds row.h s.flagH t.flagH ∧
    holds row.c s.flagC t.flagC

/-- The register frame: an instruction changes no 8-bit register but those its rule writes, and `sp` only if its rule
writes it (R24, R26). -/
def Obligations.RegisterFrame : Prop :=
  ∀ (i : Instr) (s t : State), exec i s = .next t →
    (∀ r, r ∉ (Forms.facts i).regs → t.reg8 r = s.reg8 r) ∧ ((Forms.facts i).sp = false → t.sp = s.sp)

/-- The memory frame: an instruction changes no byte outside those it stores to, which are computed in the state its
executor starts from, and a form that stores nothing changes no byte at all (R68). -/
def Obligations.MemoryFrame : Prop :=
  ∀ (i : Instr) (s t : State), exec i s = .next t →
    ∀ a : Word, a ∉ Forms.storedAddrs i s → t.readByte a = s.readByte a

/-- The control frame: no instruction changes the latch, the inputs or the outcome of the last step. Only `DI`, `EI` and
`RETI` change an interrupt enable (R33, R34), only `HALT` and `STOP` change the mode (R35), and only a control
transfer changes `pc`, which already stands after the instruction (R29). The prefix byte reads one more byte. -/
def Obligations.ControlFrame : Prop :=
  ∀ (i : Instr) (s t : State), exec i s = .next t →
    s.SameEnvironment t ∧
    (t.ime = if i = .di then false else if i = .reti then true else s.ime) ∧
    (t.imePending = if i = .di then false else if i = .ei then true else s.imePending) ∧
    ((∀ pad, i ≠ .stop pad) → t.mode = if i = .halt then .halted else s.mode) ∧
    (∀ pad, i = .stop pad → t.mode = .stopped) ∧
    ((Forms.facts i).control = false → t.pc = if i = .prefixCb then s.pc + 1 else s.pc)

/-- R393: the executor adds a surcharge of 1 m-cycle for a taken `JR cc` or `JP cc` and of 3 for a taken `CALL cc` or
`RET cc`, and no other instruction adds anything. The step charges the base cost and the surcharge, four t-states to an
m-cycle. -/
def Obligations.TakenSurcharge : Prop :=
  (∀ (i : Instr) (s t : State), i.isPrefixByte = false → exec i s = .next t →
    t.mCycles = s.mCycles + Forms.surcharge i s ∧ t.tStates = s.tStates + 4 * Forms.surcharge i s) ∧
  ∀ (w : Bool) (s t : State) (i : Instr) (rest : List Byte), s.ReadyToExecute →
    decode [s.readByte s.pc, s.readByte (s.pc + 1), s.readByte (s.pc + 2)] = .ok (i, rest) → coreStep w s = .next t →
      t.mCycles = s.mCycles + (baseCycles i + Forms.surcharge i s) ∧
      t.tStates = s.tStates + 4 * (baseCycles i + Forms.surcharge i s)

/-! ## 8-bit loads -/

/-- R161, R162: a register from a register, and from an immediate. -/
def Obligations.LoadRegister : Prop :=
  ∀ s : State,
    (∀ i dst src, (i, dst, src) ∈ Forms.ldRegReg →
      EncodedBy i [BitVec.ofNat 8 (0x40 + 8 * dst.code + src.code)] ∧ baseCycles i = 1 ∧
      exec i s = .next (s.setReg8 dst (s.reg8 src))) ∧
    ∀ k dst n, (k, dst) ∈ Forms.ldRegImm →
      EncodedBy (k n) [BitVec.ofNat 8 (0x06 + 8 * dst.code), n] ∧ baseCycles (k n) = 2 ∧
      exec (k n) s = .next (s.setReg8 dst n)

/-- R163, R164, R165: the loads and stores at `HL`. The address is the old `HL`, also when `H` or `L` is loaded. -/
def Obligations.LoadAndStoreAtHl : Prop :=
  ∀ s : State,
    (∀ i dst, (i, dst) ∈ Forms.ldRegInd →
      EncodedBy i [BitVec.ofNat 8 (0x46 + 8 * dst.code)] ∧ baseCycles i = 2 ∧
      exec i s = .next ((s.withRead s.hl).setReg8 dst (s.readByte s.hl))) ∧
    (∀ i src, (i, src) ∈ Forms.ldIndReg →
      EncodedBy i [BitVec.ofNat 8 (0x70 + src.code)] ∧ baseCycles i = 2 ∧
      exec i s = .next (s.withWrite s.hl (s.reg8 src))) ∧
    ∀ n, EncodedBy (.ldIndHlN8 n) [0x36, n] ∧ baseCycles (.ldIndHlN8 n) = 3 ∧
      exec (.ldIndHlN8 n) s = .next (s.withWrite s.hl n)

/-- R166 to R169: `A` and the byte at `BC` or `DE`. -/
def Obligations.AccumulatorAtBcDe : Prop :=
  ∀ s : State,
    (EncodedBy .ldAIndBc [0x0A] ∧ baseCycles .ldAIndBc = 2 ∧
      exec .ldAIndBc s = .next { s.withRead (s.reg16 .bc) with a := s.readByte (s.reg16 .bc) }) ∧
    (EncodedBy .ldAIndDe [0x1A] ∧ baseCycles .ldAIndDe = 2 ∧
      exec .ldAIndDe s = .next { s.withRead (s.reg16 .de) with a := s.readByte (s.reg16 .de) }) ∧
    (EncodedBy .ldIndBcA [0x02] ∧ baseCycles .ldIndBcA = 2 ∧
      exec .ldIndBcA s = .next (s.withWrite (s.reg16 .bc) s.a)) ∧
    (EncodedBy .ldIndDeA [0x12] ∧ baseCycles .ldIndDeA = 2 ∧
      exec .ldIndDeA s = .next (s.withWrite (s.reg16 .de) s.a))

/-- R170 to R175: `A` and the byte at an absolute address, and in the high page at an immediate offset or at `C`. -/
def Obligations.AccumulatorAbsoluteAndHighPage : Prop :=
  ∀ (s : State) (addr : Word) (n : Byte),
    let high := BitVec.ofNat 16 (0xFF00 + n.toNat)
    let highC := BitVec.ofNat 16 (0xFF00 + s.c.toNat)
    (EncodedBy (.ldAIndN16 addr) [0xFA, addr.extractLsb' 0 8, addr.extractLsb' 8 8] ∧
      baseCycles (.ldAIndN16 addr) = 4 ∧
      exec (.ldAIndN16 addr) s = .next { s.withRead addr with a := s.readByte addr }) ∧
    (EncodedBy (.ldIndN16A addr) [0xEA, addr.extractLsb' 0 8, addr.extractLsb' 8 8] ∧
      baseCycles (.ldIndN16A addr) = 4 ∧
      exec (.ldIndN16A addr) s = .next (s.withWrite addr s.a)) ∧
    (EncodedBy (.ldhAIndN8 n) [0xF0, n] ∧ baseCycles (.ldhAIndN8 n) = 3 ∧
      exec (.ldhAIndN8 n) s = .next { s.withRead high with a := s.readByte high }) ∧
    (EncodedBy (.ldhIndN8A n) [0xE0, n] ∧ baseCycles (.ldhIndN8A n) = 3 ∧
      exec (.ldhIndN8A n) s = .next (s.withWrite high s.a)) ∧
    (EncodedBy .ldhAIndC [0xF2] ∧ baseCycles .ldhAIndC = 2 ∧
      exec .ldhAIndC s = .next { s.withRead highC with a := s.readByte highC }) ∧
    (EncodedBy .ldhIndCA [0xE2] ∧ baseCycles .ldhIndCA = 2 ∧ exec .ldhIndCA s = .next (s.withWrite highC s.a))

/-- R176 to R179: `A` and the byte at `HL`, with `HL` changed by one, modulo 2^16, after the access. -/
def Obligations.AccumulatorAtHlWithStep : Prop :=
  ∀ s : State,
    (EncodedBy .ldIndHliA [0x22] ∧ baseCycles .ldIndHliA = 2 ∧
      exec .ldIndHliA s = .next ((s.withWrite s.hl s.a).setReg16 .hl (s.hl + 1))) ∧
    (EncodedBy .ldIndHldA [0x32] ∧ baseCycles .ldIndHldA = 2 ∧
      exec .ldIndHldA s = .next ((s.withWrite s.hl s.a).setReg16 .hl (s.hl - 1))) ∧
    (EncodedBy .ldAIndHli [0x2A] ∧ baseCycles .ldAIndHli = 2 ∧
      exec .ldAIndHli s = .next ({ s.withRead s.hl with a := s.readByte s.hl }.setReg16 .hl (s.hl + 1))) ∧
    (EncodedBy .ldAIndHld [0x3A] ∧ baseCycles .ldAIndHld = 2 ∧
      exec .ldAIndHld s = .next ({ s.withRead s.hl with a := s.readByte s.hl }.setReg16 .hl (s.hl - 1)))

/-! ## 16-bit loads and the stack -/

/-- R191, R192, R193: a pair or `sp` from an immediate, `sp` to memory with its low byte at the lower address, and `sp`
from `HL`. -/
def Obligations.LoadPairs : Prop :=
  ∀ (s : State) (n : Word),
    (∀ k r, (k, r) ∈ Forms.ldPairImm →
      EncodedBy (k n) [BitVec.ofNat 8 (0x01 + 16 * r.code), n.extractLsb' 0 8, n.extractLsb' 8 8] ∧
      baseCycles (k n) = 3 ∧ exec (k n) s = .next (s.setReg16 r n)) ∧
    (EncodedBy (.ldIndN16Sp n) [0x08, n.extractLsb' 0 8, n.extractLsb' 8 8] ∧ baseCycles (.ldIndN16Sp n) = 5 ∧
      exec (.ldIndN16Sp n) s =
        .next ((s.withWrite n (s.sp.extractLsb' 0 8)).withWrite (n + 1) (s.sp.extractLsb' 8 8))) ∧
    (EncodedBy .ldSpHl [0xF9] ∧ baseCycles .ldSpHl = 2 ∧ exec .ldSpHl s = .next { s with sp := s.hl })

/-- R194 to R197: `PUSH` writes the high byte at `sp - 1`, then the low byte at `sp - 2`. `POP` reads the low byte at `sp`,
then the high byte at `sp + 1`. `F` goes out and comes in with its low nibble 0. -/
def Obligations.PushAndPop : Prop :=
  ∀ s : State,
    (∀ i r, (i, r) ∈ Forms.pushPair →
      EncodedBy i [BitVec.ofNat 8 (0xC5 + 16 * r.code)] ∧ baseCycles i = 4 ∧
      exec i s = .next
        { ((s.withWrite (s.sp - 1) ((s.stackReg r).extractLsb' 8 8)).withWrite (s.sp - 2)
            ((s.stackReg r).extractLsb' 0 8)) with sp := s.sp - 2 }) ∧
    ∀ i r, (i, r) ∈ Forms.popPair →
      EncodedBy i [BitVec.ofNat 8 (0xC1 + 16 * r.code)] ∧ baseCycles i = 3 ∧
      exec i s = .next ({ ((s.withRead s.sp).withRead (s.sp + 1)) with sp := s.sp + 2 }.setStackReg r
        (s.readByte (s.sp + 1) ++ s.readByte s.sp : BitVec 16))

/-- `PUSH rr; POP ss` copies `rr` to `ss`, through `AF` with the low nibble cleared, and leaves `sp` as it was. The stack
grows downward, and `sp` points at the low byte of the last pushed word. The spec derives it (R198), and it rests on
the stack bytes being ordinary memory (log entry 1, DESIGN CHOICE). -/
def Obligations.PushThenPopCopies : Prop :=
  ∀ (s t u : State) (i j : Instr) (r q : StackReg), (i, r) ∈ Forms.pushPair → (j, q) ∈ Forms.popPair →
    exec i s = .next t → exec j t = .next u →
      t.sp = s.sp - 2 ∧ t.readByte t.sp = (s.stackReg r).extractLsb' 0 8 ∧
      u.stackReg q = (if q = .af then s.stackReg r &&& 0xFFF0 else s.stackReg r) ∧ u.sp = s.sp

/-! ## 8-bit arithmetic and logic -/

/-- An accumulator operation has an effect in each of the three operand forms of R210: with its bytes, its base cost, and
the read of `HL` where there is one. -/
def Sys2Proof.Forms.sourceForms (op : AluOp) (effect : State → Byte → State) : Prop :=
  ∀ s : State,
    (∀ i r, (i, op, r) ∈ Forms.aluReg →
      EncodedBy i [BitVec.ofNat 8 (0x80 + 8 * op.code + r.code)] ∧ baseCycles i = 1 ∧
      exec i s = .next (effect s (s.reg8 r))) ∧
    (∀ i, (i, op) ∈ Forms.aluInd →
      EncodedBy i [BitVec.ofNat 8 (0x86 + 8 * op.code)] ∧ baseCycles i = 2 ∧
      exec i s = .next (effect (s.withRead s.hl) (s.readByte s.hl))) ∧
    ∀ k n, (k, op) ∈ Forms.aluImm →
      EncodedBy (k n) [BitVec.ofNat 8 (0xC6 + 8 * op.code), n] ∧ baseCycles (k n) = 2 ∧
      exec (k n) s = .next (effect s n)

/-- R211, R212: `ADD` and `ADC`, with the carries out of bits 3 and 7 of the exact sum. -/
def Obligations.AddAndAddWithCarry : Prop :=
  Forms.sourceForms .add (fun s v => { s with
    a := s.a + v
    f := packFlags (decide (s.a + v = 0)) false (decide (s.a.toNat % 16 + v.toNat % 16 > 0x0F))
      (decide (s.a.toNat + v.toNat > 0xFF)) }) ∧
  Forms.sourceForms .adc (fun s v =>
    let cin := if s.flagC then 1 else 0
    { s with
      a := BitVec.ofNat 8 ((s.a.toNat + v.toNat + cin) % 256)
      f := packFlags (decide ((s.a.toNat + v.toNat + cin) % 256 = 0)) false
        (decide (s.a.toNat % 16 + v.toNat % 16 + cin > 0x0F)) (decide (s.a.toNat + v.toNat + cin > 0xFF)) })

/-- R213, R214, R218: `SUB`, `SBC` and `CP`, with the borrows into bits 4 and 8 of the exact difference. `CP` writes no
register. -/
def Obligations.SubtractAndCompare : Prop :=
  Forms.sourceForms .sub (fun s v => { s with
    a := s.a - v
    f := packFlags (decide (s.a = v)) true (decide (s.a.toNat % 16 < v.toNat % 16)) (decide (s.a.toNat < v.toNat)) }) ∧
  Forms.sourceForms .sbc (fun s v =>
    let cin := if s.flagC then 1 else 0
    { s with
      a := s.a - v - BitVec.ofNat 8 cin
      f := packFlags (decide (s.a - v - BitVec.ofNat 8 cin = 0)) true
        (decide (s.a.toNat % 16 < v.toNat % 16 + cin)) (decide (s.a.toNat < v.toNat + cin)) }) ∧
  Forms.sourceForms .cp (fun s v => { s with
    f := packFlags (decide (s.a = v)) true (decide (s.a.toNat % 16 < v.toNat % 16)) (decide (s.a.toNat < v.toNat)) })

/-- R215, R216, R217: `AND`, `XOR` and `OR`. -/
def Obligations.BitwiseLogic : Prop :=
  Forms.sourceForms .and (fun s v =>
    { s with a := s.a &&& v, f := packFlags (decide (s.a &&& v = 0)) false true false }) ∧
  Forms.sourceForms .xor (fun s v =>
    { s with a := s.a ^^^ v, f := packFlags (decide (s.a ^^^ v = 0)) false false false }) ∧
  Forms.sourceForms .or (fun s v =>
    { s with a := s.a ||| v, f := packFlags (decide (s.a ||| v = 0)) false false false })

/-- R219 to R222: `INC` and `DEC` of a register and of the byte at `HL`. `C` is unchanged. -/
def Obligations.IncrementAndDecrement : Prop :=
  ∀ s : State,
    let incF := fun v : Byte => packFlags (decide (v = 0xFF)) false (decide (v.toNat % 16 = 0x0F)) s.flagC
    let decF := fun v : Byte => packFlags (decide (v = 0x01)) true (decide (v.toNat % 16 = 0)) s.flagC
    let v := s.readByte s.hl
    (∀ i r, (i, r) ∈ Forms.incReg →
      EncodedBy i [BitVec.ofNat 8 (0x04 + 8 * r.code)] ∧ baseCycles i = 1 ∧
      exec i s = .next ({ s with f := incF (s.reg8 r) }.setReg8 r (s.reg8 r + 1))) ∧
    (EncodedBy .incIndHl [0x34] ∧ baseCycles .incIndHl = 3 ∧
      exec .incIndHl s = .next { (s.withRead s.hl).withWrite s.hl (v + 1) with f := incF v }) ∧
    (∀ i r, (i, r) ∈ Forms.decReg →
      EncodedBy i [BitVec.ofNat 8 (0x05 + 8 * r.code)] ∧ baseCycles i = 1 ∧
      exec i s = .next ({ s with f := decF (s.reg8 r) }.setReg8 r (s.reg8 r - 1))) ∧
    (EncodedBy .decIndHl [0x35] ∧ baseCycles .decIndHl = 3 ∧
      exec .decIndHl s = .next { (s.withRead s.hl).withWrite s.hl (v - 1) with f := decF v })

/-- `DAA`, by the algorithm the spec gives from general knowledge (R223, log entry 16). -/
def Obligations.DecimalAdjust : Prop :=
  ∀ s : State,
    let low : Nat := if s.flagH ∨ (s.flagN = false ∧ s.a.toNat % 16 > 9) then 0x06 else 0
    let upper : Bool := s.flagC || (!s.flagN && decide (s.a.toNat > 0x99))
    let adj : Nat := low + if upper then 0x60 else 0
    let res : Byte := if s.flagN then BitVec.ofNat 8 (s.a.toNat + 256 - adj) else BitVec.ofNat 8 (s.a.toNat + adj)
    EncodedBy .daa [0x27] ∧ baseCycles .daa = 1 ∧
    exec .daa s = .next { s with a := res, f := packFlags (decide (res = 0)) s.flagN false upper }

/-- What `DAA` is for (R223): after the addition of two packed decimal numbers, `A` holds the two digits of the decimal sum
and `C` its carry. -/
def Obligations.DecimalSumAfterAdd : Prop :=
  ∀ (s t u : State) (n : Byte), s.a.toNat % 16 ≤ 9 → s.a.toNat / 16 ≤ 9 → n.toNat % 16 ≤ 9 → n.toNat / 16 ≤ 9 →
    exec (.addAN8 n) s = .next t → exec .daa t = .next u →
    let value := fun v : Byte => 10 * (v.toNat / 16) + v.toNat % 16
    u.a.toNat % 16 ≤ 9 ∧ u.a.toNat / 16 ≤ 9 ∧
    value s.a + value n = value u.a + if u.flagC then 100 else 0

/-- R224, R225, R226: `CPL`, `SCF` and `CCF`. -/
def Obligations.ComplementAndCarry : Prop :=
  ∀ s : State,
    (EncodedBy .cpl [0x2F] ∧ baseCycles .cpl = 1 ∧
      exec .cpl s = .next { s with a := s.a ^^^ 0xFF, f := packFlags s.flagZ true true s.flagC }) ∧
    (EncodedBy .scf [0x37] ∧ baseCycles .scf = 1 ∧
      exec .scf s = .next { s with f := packFlags s.flagZ false false true }) ∧
    (EncodedBy .ccf [0x3F] ∧ baseCycles .ccf = 1 ∧
      exec .ccf s = .next { s with f := packFlags s.flagZ false false (!s.flagC) })

/-! ## 16-bit arithmetic -/

/-- R250, R251: `INC r16` and `DEC r16`, modulo 2^16, with no flag. -/
def Obligations.IncrementAndDecrementPairs : Prop :=
  ∀ s : State,
    (∀ i r, (i, r) ∈ Forms.incPair →
      EncodedBy i [BitVec.ofNat 8 (0x03 + 16 * r.code)] ∧ baseCycles i = 2 ∧
      exec i s = .next (s.setReg16 r (s.reg16 r + 1))) ∧
    ∀ i r, (i, r) ∈ Forms.decPair →
      EncodedBy i [BitVec.ofNat 8 (0x0B + 16 * r.code)] ∧ baseCycles i = 2 ∧
      exec i s = .next (s.setReg16 r (s.reg16 r - 1))

/-- R252: `ADD HL,r16`, with the carries out of bits 11 and 15. `Z` is unchanged. -/
def Obligations.AddToHl : Prop :=
  ∀ (s : State) (i : Instr) (r : Reg16), (i, r) ∈ Forms.addHl →
    let x := (s.reg16 .hl).toNat
    let y := (s.reg16 r).toNat
    EncodedBy i [BitVec.ofNat 8 (0x09 + 16 * r.code)] ∧ baseCycles i = 2 ∧
    exec i s = .next ({ s with
      f := packFlags s.flagZ false (decide (x % 0x1000 + y % 0x1000 > 0x0FFF)) (decide (x + y > 0xFFFF)) }.setReg16
        .hl (BitVec.ofNat 16 (x + y)))

/-- R253, R254: `ADD SP,e8` and `LD HL,SP+e8`: the signed 16-bit sum, with the carries of the unsigned low-byte sum. -/
def Obligations.StackPointerOffset : Prop :=
  ∀ (s : State) (e : Byte),
    let sum : Word := BitVec.ofInt 16 (s.sp.toNat + e.toInt)
    let f := packFlags false false (decide (s.sp.toNat % 16 + e.toNat % 16 > 0x0F))
      (decide (s.sp.toNat % 256 + e.toNat > 0xFF))
    (EncodedBy (.addSpE8 e) [0xE8, e] ∧ baseCycles (.addSpE8 e) = 4 ∧
      exec (.addSpE8 e) s = .next { s with sp := sum, f := f }) ∧
    (EncodedBy (.ldHlSpE8 e) [0xF8, e] ∧ baseCycles (.ldHlSpE8 e) = 3 ∧
      exec (.ldHlSpE8 e) s = .next ({ s with f := f }.setReg16 .hl sum))

/-! ## Control transfer -/

/-- R266, R267, R268: the absolute jumps. `JP HL` reads no memory. -/
def Obligations.AbsoluteJumps : Prop :=
  ∀ (s : State) (n : Word),
    (EncodedBy (.jpN16 n) [0xC3, n.extractLsb' 0 8, n.extractLsb' 8 8] ∧ baseCycles (.jpN16 n) = 4 ∧
      exec (.jpN16 n) s = .next { s with pc := n }) ∧
    (EncodedBy .jpHl [0xE9] ∧ baseCycles .jpHl = 1 ∧ exec .jpHl s = .next { s with pc := s.hl }) ∧
    ∀ k cc, (k, cc) ∈ Forms.jpCond →
      EncodedBy (k n) [BitVec.ofNat 8 (0xC2 + 8 * cc.code), n.extractLsb' 0 8, n.extractLsb' 8 8] ∧
      baseCycles (k n) = 3 ∧
      exec (k n) s = .next (if s.cond cc then
        { s with pc := n, mCycles := s.mCycles + 1, tStates := s.tStates + 4 } else s)

/-- R269, R270: the relative jumps, from the address after the instruction, modulo 2^16. -/
def Obligations.RelativeJumps : Prop :=
  ∀ (s : State) (e : Byte),
    let target : Word := BitVec.ofInt 16 (s.pc.toNat + e.toInt)
    (EncodedBy (.jrE8 e) [0x18, e] ∧ baseCycles (.jrE8 e) = 3 ∧ exec (.jrE8 e) s = .next { s with pc := target }) ∧
    ∀ k cc, (k, cc) ∈ Forms.jrCond →
      EncodedBy (k e) [BitVec.ofNat 8 (0x20 + 8 * cc.code), e] ∧ baseCycles (k e) = 2 ∧
      exec (k e) s = .next (if s.cond cc then
        { s with pc := target, mCycles := s.mCycles + 1, tStates := s.tStates + 4 } else s)

/-- R271, R272, R278: the calls push the address after the instruction, high byte first, and go to their target. -/
def Obligations.Calls : Prop :=
  ∀ (s : State) (n : Word),
    let pushed := { ((s.withWrite (s.sp - 1) (s.pc.extractLsb' 8 8)).withWrite (s.sp - 2) (s.pc.extractLsb' 0 8)) with
      sp := s.sp - 2 }
    (EncodedBy (.callN16 n) [0xCD, n.extractLsb' 0 8, n.extractLsb' 8 8] ∧ baseCycles (.callN16 n) = 6 ∧
      exec (.callN16 n) s = .next { pushed with pc := n }) ∧
    (∀ k cc, (k, cc) ∈ Forms.callCond →
      EncodedBy (k n) [BitVec.ofNat 8 (0xC4 + 8 * cc.code), n.extractLsb' 0 8, n.extractLsb' 8 8] ∧
      baseCycles (k n) = 3 ∧
      exec (k n) s = .next (if s.cond cc then
        { pushed with pc := n, mCycles := s.mCycles + 3, tStates := s.tStates + 12 } else s)) ∧
    ∀ i vec, (i, vec) ∈ Forms.rst →
      vec ∈ [0x00, 0x08, 0x10, 0x18, 0x20, 0x28, 0x30, 0x38] ∧
      EncodedBy i [BitVec.ofNat 8 (0xC7 + vec)] ∧ baseCycles i = 4 ∧
      exec i s = .next { pushed with pc := BitVec.ofNat 16 vec }

/-- R273, R274, R275: the returns pop the low byte first. `RETI` also enables interrupts at once and leaves the pending
enable as it is. -/
def Obligations.Returns : Prop :=
  ∀ s : State,
    let popped := { ((s.withRead s.sp).withRead (s.sp + 1)) with
      sp := s.sp + 2, pc := (s.readByte (s.sp + 1) ++ s.readByte s.sp : BitVec 16) }
    (EncodedBy .ret [0xC9] ∧ baseCycles .ret = 4 ∧ exec .ret s = .next popped) ∧
    (EncodedBy .reti [0xD9] ∧ baseCycles .reti = 4 ∧ exec .reti s = .next { popped with ime := true }) ∧
    ∀ i cc, (i, cc) ∈ Forms.retCond →
      EncodedBy i [BitVec.ofNat 8 (0xC0 + 8 * cc.code)] ∧ baseCycles i = 2 ∧
      exec i s = .next (if s.cond cc then
        { popped with mCycles := s.mCycles + 3, tStates := s.tStates + 12 } else s)

/-- A call and a return with no stack write between them leave `pc` after the call and `sp` as it was: the sentence R276
quotes. It rests on the stack bytes being ordinary memory (log entry 1, DESIGN CHOICE). -/
def Obligations.CallThenReturn : Prop :=
  ∀ (s t u : State) (n : Word), exec (.callN16 n) s = .next t →
    (∀ v : State, v.sp = t.sp → v.readByte v.sp = t.readByte t.sp → v.readByte (v.sp + 1) = t.readByte (t.sp + 1) →
      exec .ret v = .next u → u.pc = s.pc ∧ u.sp = s.sp)

/-! ## System instructions -/

/-- R290, R293: `NOP` has no effect, and `DI` disables interrupts at once and cancels a pending enable. -/
def Obligations.NopAndDisable : Prop :=
  ∀ s : State,
    (EncodedBy .nop [0x00] ∧ baseCycles .nop = 1 ∧ exec .nop s = .next s) ∧
    (EncodedBy .di [0xF3] ∧ baseCycles .di = 1 ∧ exec .di s = .next { s with ime := false, imePending := false })

/-- `HALT`, `STOP` and `EI` as instructions (R291, R292, R294). `EI` is stated for the default `EI_DELAY = true` (log
entry 5); `HALT` has no double fetch, in any state (log entry 6). -/
def Obligations.HaltStopEnable : Prop :=
  ∀ s : State,
    (EncodedBy .halt [0x76] ∧ baseCycles .halt = 1 ∧ exec .halt s = .next { s with mode := .halted }) ∧
    (∀ pad, EncodedBy (.stop pad) [0x10, pad] ∧ baseCycles (.stop pad) = 1 ∧
      exec (.stop pad) s = .next { s with mode := .stopped }) ∧
    (EncodedBy .ei [0xFB] ∧ baseCycles .ei = 1 ∧ exec .ei s = .next { s with imePending := true })

/-- The prefix byte does nothing of its own. It reads the next byte and runs the Table B instruction that byte
selects, at that instruction's cost. The decoder never gives it (R296, log entry 11). -/
def Obligations.PrefixRunsTableB : Prop :=
  ∀ s : State, encode .prefixCb = [0xCB] ∧ baseCycles .prefixCb = 0 ∧
    ∃ i t, decode [0xCB, s.readByte s.pc] = .ok (i, []) ∧ exec i s.fetchedByte = .next t ∧
      exec .prefixCb s = .next (tick (baseCycles i) t)

/-! ## Rotates, shifts and bits -/

/-- The result and the new carry of each rotate, shift and swap, in the braces of R310 to R324. -/
def Sys2Proof.Forms.shiftSpec (op : ShiftOp) (v : Byte) (c : Bool) : Byte × Bool :=
  match op with
  | .rlc => ((v.extractLsb' 0 7 ++ BitVec.ofBool (v.getLsbD 7) : BitVec 8), v.getLsbD 7)
  | .rrc => ((BitVec.ofBool (v.getLsbD 0) ++ v.extractLsb' 1 7 : BitVec 8), v.getLsbD 0)
  | .rl => ((v.extractLsb' 0 7 ++ BitVec.ofBool c : BitVec 8), v.getLsbD 7)
  | .rr => ((BitVec.ofBool c ++ v.extractLsb' 1 7 : BitVec 8), v.getLsbD 0)
  | .sla => ((v.extractLsb' 0 7 ++ 0#1 : BitVec 8), v.getLsbD 7)
  | .sra => ((BitVec.ofBool (v.getLsbD 7) ++ v.extractLsb' 1 7 : BitVec 8), v.getLsbD 0)
  | .swap => ((v.extractLsb' 0 4 ++ v.extractLsb' 4 4 : BitVec 8), false)
  | .srl => ((0#1 ++ v.extractLsb' 1 7 : BitVec 8), v.getLsbD 0)

/-- R305 to R308: the short rotates of `A`, which always clear `Z`. -/
def Obligations.ShortRotates : Prop :=
  ∀ (s : State) (i : Instr) (op : ShiftOp), (i, op) ∈ Forms.rotateA →
    let r := Forms.shiftSpec op s.a s.flagC
    EncodedBy i [BitVec.ofNat 8 (0x07 + 8 * op.code)] ∧ baseCycles i = 1 ∧
    exec i s = .next { s with a := r.1, f := packFlags false false false r.2 }

/-- R310, R312, R314, R316, R318, R320, R322, R324: the register forms. -/
def Obligations.ShiftRegister : Prop :=
  ∀ (s : State) (i : Instr) (op : ShiftOp) (reg : Reg8), (i, op, reg) ∈ Forms.shiftReg →
    let r := Forms.shiftSpec op (s.reg8 reg) s.flagC
    EncodedBy i [0xCB, BitVec.ofNat 8 (8 * op.code + reg.code)] ∧ baseCycles i = 2 ∧
    exec i s = .next ({ s with f := packFlags (decide (r.1 = 0)) false false r.2 }.setReg8 reg r.1)

/-- R311, R313, R315, R317, R319, R321, R323, R325: the `(HL)` forms, one read and then one write. -/
def Obligations.ShiftAtHl : Prop :=
  ∀ (s : State) (i : Instr) (op : ShiftOp), (i, op) ∈ Forms.shiftInd →
    let r := Forms.shiftSpec op (s.readByte s.hl) s.flagC
    EncodedBy i [0xCB, BitVec.ofNat 8 (8 * op.code + 6)] ∧ baseCycles i = 4 ∧
    exec i s = .next { (s.withRead s.hl).withWrite s.hl r.1 with f := packFlags (decide (r.1 = 0)) false false r.2 }

/-- R326, R327: `BIT` sets `Z` to the complement of the bit and writes nothing, to memory either. -/
def Obligations.BitTest : Prop :=
  ∀ (s : State) (i : Instr) (n : Nat),
    (∀ r, (i, n, r) ∈ Forms.bitReg →
      n < 8 ∧ EncodedBy i [0xCB, BitVec.ofNat 8 (0x40 + 8 * n + r.code)] ∧ baseCycles i = 2 ∧
      exec i s = .next { s with f := packFlags (!(s.reg8 r).getLsbD n) false true s.flagC }) ∧
    ((i, n) ∈ Forms.bitInd →
      n < 8 ∧ EncodedBy i [0xCB, BitVec.ofNat 8 (0x46 + 8 * n)] ∧ baseCycles i = 4 ∧
      exec i s = .next { s.withRead s.hl with f := packFlags (!(s.readByte s.hl).getLsbD n) false true s.flagC })

/-- R328, R329: `RES` clears one bit and leaves the others, and every flag, as they were. -/
def Obligations.BitClear : Prop :=
  ∀ (s : State) (i : Instr) (n : Nat),
    (∀ r, (i, n, r) ∈ Forms.resReg →
      n < 8 ∧ EncodedBy i [0xCB, BitVec.ofNat 8 (0x80 + 8 * n + r.code)] ∧ baseCycles i = 2 ∧
      ∃ v : Byte, (∀ k < 8, v.getLsbD k = ((s.reg8 r).getLsbD k && k != n)) ∧ exec i s = .next (s.setReg8 r v)) ∧
    ((i, n) ∈ Forms.resInd →
      n < 8 ∧ EncodedBy i [0xCB, BitVec.ofNat 8 (0x86 + 8 * n)] ∧ baseCycles i = 4 ∧
      ∃ v : Byte, (∀ k < 8, v.getLsbD k = ((s.readByte s.hl).getLsbD k && k != n)) ∧
        exec i s = .next ((s.withRead s.hl).withWrite s.hl v))

/-- R330, R331: `SET` sets one bit and leaves the others, and every flag, as they were. -/
def Obligations.BitSet : Prop :=
  ∀ (s : State) (i : Instr) (n : Nat),
    (∀ r, (i, n, r) ∈ Forms.setReg →
      n < 8 ∧ EncodedBy i [0xCB, BitVec.ofNat 8 (0xC0 + 8 * n + r.code)] ∧ baseCycles i = 2 ∧
      ∃ v : Byte, (∀ k < 8, v.getLsbD k = ((s.reg8 r).getLsbD k || k == n)) ∧ exec i s = .next (s.setReg8 r v)) ∧
    ((i, n) ∈ Forms.setInd →
      n < 8 ∧ EncodedBy i [0xCB, BitVec.ofNat 8 (0xC6 + 8 * n)] ∧ baseCycles i = 4 ∧
      ∃ v : Byte, (∀ k < 8, v.getLsbD k = ((s.readByte s.hl).getLsbD k || k == n)) ∧
        exec i s = .next ((s.withRead s.hl).withWrite s.hl v))
end

