-- ==== Sys2Proof/Laws/Memory.lean ====
section
/-! SUPPORT. The laws of memory: what is listed and read after a write, and the canonical form. The laws of listing and
reading hold of every list of cells, canonical or not. -/

namespace Sys2Proof.Machine

theorem Memory.lookup_erase_other (m : Memory) (a b : Word) (h : b ≠ a) :
    Memory.lookup (Memory.erase m a.toNat) b = Memory.lookup m b := by
  have hab : b.toNat ≠ a.toNat := fun e => h (BitVec.eq_of_toNat_eq e)
  induction m with
  | nil => rfl
  | cons cell rest ih =>
    obtain ⟨k, v⟩ := cell
    by_cases hk : k = a.toNat
    · have hb : ¬ a.toNat = b.toNat := fun e => hab e.symm
      simpa [Memory.erase, hk, Memory.lookup, hb] using ih
    · by_cases hb : k = b.toNat
      · simp [Memory.erase, Memory.lookup, hb, hab]
      · simpa [Memory.erase, hk, Memory.lookup, hb] using ih

theorem Memory.lookup_insert_other (m : Memory) (a b : Word) (v : Byte) (h : b ≠ a) :
    Memory.lookup (Memory.insert m a.toNat v) b = Memory.lookup m b := by
  have hab : ¬ a.toNat = b.toNat := fun e => h (BitVec.eq_of_toNat_eq e.symm)
  induction m with
  | nil => simp [Memory.insert, Memory.lookup, hab]
  | cons cell rest ih =>
    obtain ⟨k, w⟩ := cell
    unfold Memory.insert
    split
    · simp [Memory.lookup, hab]
    · simp only [Memory.lookup, ih]

theorem Memory.lookup_insert_same (m : Memory) (a : Word) (v : Byte) (h : ∀ cell ∈ m, cell.1 ≠ a.toNat) :
    Memory.lookup (Memory.insert m a.toNat v) a = some v := by
  induction m with
  | nil => simp [Memory.insert, Memory.lookup]
  | cons cell rest ih =>
    obtain ⟨k, w⟩ := cell
    unfold Memory.insert
    split
    · simp [Memory.lookup]
    · have hk : k ≠ a.toNat := h (k, w) (by simp)
      simp only [Memory.lookup, hk, if_false]
      exact ih fun c hc => h c (List.mem_cons_of_mem _ hc)

theorem Memory.erase_keys (m : Memory) (a : Nat) : ∀ cell ∈ Memory.erase m a, cell.1 ≠ a := by
  intro cell hc
  simpa using (List.mem_filter.mp hc).2

/-- The address just written lists the byte written. -/
@[simp] theorem Memory.lookup_write_same (m : Memory) (a : Word) (v : Byte) :
    Memory.lookup (Memory.write m a v) a = some v :=
  Memory.lookup_insert_same _ a v (Memory.erase_keys m a.toNat)

/-- A write leaves what every other address lists as it was. -/
theorem Memory.lookup_write_other (m : Memory) (a b : Word) (v : Byte) (h : b ≠ a) :
    Memory.lookup (Memory.write m a v) b = Memory.lookup m b :=
  (Memory.lookup_insert_other _ a b v h).trans (Memory.lookup_erase_other m a b h)

/-- An address that lists nothing reads as its free value. -/
theorem Memory.read_unlisted (m : Memory) (a : Word) (h : Memory.lookup m a = none) :
    Memory.read m a = Config.unlistedByte a := by
  simp [Memory.read, h]

/-- A read of the address just written gives the byte written. -/
@[simp] theorem Memory.read_write_same (m : Memory) (a : Word) (v : Byte) :
    Memory.read (Memory.write m a v) a = v := by
  simp [Memory.read]

/-- A write leaves every other address as it was. -/
theorem Memory.read_write_other (m : Memory) (a b : Word) (v : Byte) (h : b ≠ a) :
    Memory.read (Memory.write m a v) b = Memory.read m b := by
  simp only [Memory.read, Memory.lookup_write_other m a b v h]

theorem Memory.wf_nil : Memory.wf [] := by simp [Memory.wf]

theorem Memory.wf_erase {m : Memory} (hm : Memory.wf m) (a : Nat) : Memory.wf (Memory.erase m a) :=
  ⟨hm.1.filter _, fun c hc => hm.2 c (List.mem_filter.mp hc).1⟩

theorem Memory.mem_insert {m : Memory} {a : Nat} {v : Byte} {c : Host.Cell} (h : c ∈ Memory.insert m a v) :
    c = (a, v) ∨ c ∈ m := by
  induction m with
  | nil => simpa [Memory.insert] using h
  | cons cell rest ih =>
    obtain ⟨k, w⟩ := cell
    unfold Memory.insert at h
    split at h
    · simpa using h
    · rcases List.mem_cons.mp h with h | h
      · exact .inr (by simp [h])
      · rcases ih h with h | h
        · exact .inl h
        · exact .inr (List.mem_cons_of_mem _ h)

theorem Memory.sorted_insert {m : Memory} (a : Nat) (v : Byte) (hm : m.Pairwise fun x y => x.1 < y.1)
    (hk : ∀ cell ∈ m, cell.1 ≠ a) : (Memory.insert m a v).Pairwise fun x y => x.1 < y.1 := by
  induction m with
  | nil => simp [Memory.insert]
  | cons cell rest ih =>
    obtain ⟨k, w⟩ := cell
    have ⟨hhead, htail⟩ := List.pairwise_cons.mp hm
    unfold Memory.insert
    split
    · next hlt =>
      refine List.pairwise_cons.mpr ⟨fun c hc => ?_, hm⟩
      rcases List.mem_cons.mp hc with rfl | hc
      · exact hlt
      · exact Nat.lt_trans hlt (hhead c hc)
    · next hle =>
      have hne : k ≠ a := hk (k, w) (by simp)
      refine List.pairwise_cons.mpr ⟨fun c hc => ?_, ih htail fun c hc => hk c (List.mem_cons_of_mem _ hc)⟩
      rcases Memory.mem_insert hc with rfl | hc
      · show k < a
        omega
      · exact hhead c hc

/-- Every write keeps the canonical form. -/
theorem Memory.wf_write {m : Memory} (hm : Memory.wf m) (a : Word) (v : Byte) : Memory.wf (Memory.write m a v) := by
  have he := Memory.wf_erase hm a.toNat
  refine ⟨Memory.sorted_insert _ _ he.1 (Memory.erase_keys m a.toNat), fun c hc => ?_⟩
  rcases Memory.mem_insert hc with rfl | hc
  · exact a.isLt
  · exact he.2 c hc

/-- So do several writes. -/
theorem Memory.wf_writeAll {m : Memory} (hm : Memory.wf m) (cells : List (Word × Byte)) :
    Memory.wf (Memory.writeAll m cells) := by
  induction cells generalizing m with
  | nil => exact hm
  | cons cell rest ih => exact ih (Memory.wf_write hm cell.1 cell.2)

/-- Several writes leave every address they do not name as it was. -/
theorem Memory.lookup_writeAll_other (m : Memory) (cells : List (Word × Byte)) (a : Word) (h : ∀ v, (a, v) ∉ cells) :
    Memory.lookup (Memory.writeAll m cells) a = Memory.lookup m a := by
  induction cells generalizing m with
  | nil => rfl
  | cons cell rest ih =>
    obtain ⟨k, w⟩ := cell
    have hk : a ≠ k := fun e => h w (by simp [e])
    exact (ih _ fun v hv => h v (List.mem_cons_of_mem _ hv)).trans (Memory.lookup_write_other _ _ _ _ hk)

/-- Of several writes to one address, the last one is the one that is listed. -/
theorem Memory.lookup_writeAll_last (m : Memory) (before after : List (Word × Byte)) (a : Word) (v : Byte)
    (h : ∀ w, (a, w) ∉ after) : Memory.lookup (Memory.writeAll m (before ++ (a, v) :: after)) a = some v := by
  have happ : Memory.writeAll m (before ++ (a, v) :: after) =
      Memory.writeAll (Memory.write (Memory.writeAll m before) a v) after := by simp [Memory.writeAll]
  rw [happ, Memory.lookup_writeAll_other _ _ _ h, Memory.lookup_write_same]

/-- The same two laws for reads. -/
theorem Memory.read_writeAll_other (m : Memory) (cells : List (Word × Byte)) (a : Word) (h : ∀ v, (a, v) ∉ cells) :
    Memory.read (Memory.writeAll m cells) a = Memory.read m a := by
  simp only [Memory.read, Memory.lookup_writeAll_other m cells a h]

theorem Memory.read_writeAll_last (m : Memory) (before after : List (Word × Byte)) (a : Word) (v : Byte)
    (h : ∀ w, (a, w) ∉ after) : Memory.read (Memory.writeAll m (before ++ (a, v) :: after)) a = v := by
  simp [Memory.read, Memory.lookup_writeAll_last m before after a v h]

end Sys2Proof.Machine
end

