-- ==== Sys2Proof/Laws/State.lean ====
section
/-! SUPPORT. What each shared operation does to each field of the state: one lemma per field, so that no proof unfolds a
record update. -/

namespace Sys2Proof.Machine

variable (s : State)

/-! Bus transactions. -/

@[simp] theorem memRead_a (addr : Word) :
    ((memRead addr s).2).a = s.a := rfl
@[simp] theorem memRead_f (addr : Word) :
    ((memRead addr s).2).f = s.f := rfl
@[simp] theorem memRead_b (addr : Word) :
    ((memRead addr s).2).b = s.b := rfl
@[simp] theorem memRead_c (addr : Word) :
    ((memRead addr s).2).c = s.c := rfl
@[simp] theorem memRead_d (addr : Word) :
    ((memRead addr s).2).d = s.d := rfl
@[simp] theorem memRead_e (addr : Word) :
    ((memRead addr s).2).e = s.e := rfl
@[simp] theorem memRead_h (addr : Word) :
    ((memRead addr s).2).h = s.h := rfl
@[simp] theorem memRead_l (addr : Word) :
    ((memRead addr s).2).l = s.l := rfl
@[simp] theorem memRead_sp (addr : Word) :
    ((memRead addr s).2).sp = s.sp := rfl
@[simp] theorem memRead_pc (addr : Word) :
    ((memRead addr s).2).pc = s.pc := rfl
@[simp] theorem memRead_ime (addr : Word) :
    ((memRead addr s).2).ime = s.ime := rfl
@[simp] theorem memRead_imePending (addr : Word) :
    ((memRead addr s).2).imePending = s.imePending := rfl
@[simp] theorem memRead_mode (addr : Word) :
    ((memRead addr s).2).mode = s.mode := rfl
@[simp] theorem memRead_locked (addr : Word) :
    ((memRead addr s).2).locked = s.locked := rfl
@[simp] theorem memRead_mCycles (addr : Word) :
    ((memRead addr s).2).mCycles = s.mCycles := rfl
@[simp] theorem memRead_tStates (addr : Word) :
    ((memRead addr s).2).tStates = s.tStates := rfl
@[simp] theorem memRead_mem (addr : Word) :
    ((memRead addr s).2).mem = s.mem := rfl
@[simp] theorem memRead_readByte (addr : Word) (b : Word) :
    ((memRead addr s).2).readByte b = s.readByte b := by
  simp [State.readByte]
@[simp] theorem memRead_bus (addr : Word) :
    ((memRead addr s).2).bus = s.bus ++ [.read addr (s.readByte addr)] := rfl
@[simp] theorem memRead_outcome (addr : Word) :
    ((memRead addr s).2).outcome = s.outcome := rfl
@[simp] theorem memRead_env (addr : Word) :
    ((memRead addr s).2).env = s.env := rfl
@[simp] theorem memRead_stopWakeReads (addr : Word) :
    ((memRead addr s).2).stopWakeReads = s.stopWakeReads := rfl

@[simp] theorem memRead_value (addr : Word) : (memRead addr s).1 = s.readByte addr := rfl

@[simp] theorem memWrite_a (addr : Word) (v : Byte) :
    (memWrite addr v s).a = s.a := rfl
@[simp] theorem memWrite_f (addr : Word) (v : Byte) :
    (memWrite addr v s).f = s.f := rfl
@[simp] theorem memWrite_b (addr : Word) (v : Byte) :
    (memWrite addr v s).b = s.b := rfl
@[simp] theorem memWrite_c (addr : Word) (v : Byte) :
    (memWrite addr v s).c = s.c := rfl
@[simp] theorem memWrite_d (addr : Word) (v : Byte) :
    (memWrite addr v s).d = s.d := rfl
@[simp] theorem memWrite_e (addr : Word) (v : Byte) :
    (memWrite addr v s).e = s.e := rfl
@[simp] theorem memWrite_h (addr : Word) (v : Byte) :
    (memWrite addr v s).h = s.h := rfl
@[simp] theorem memWrite_l (addr : Word) (v : Byte) :
    (memWrite addr v s).l = s.l := rfl
@[simp] theorem memWrite_sp (addr : Word) (v : Byte) :
    (memWrite addr v s).sp = s.sp := rfl
@[simp] theorem memWrite_pc (addr : Word) (v : Byte) :
    (memWrite addr v s).pc = s.pc := rfl
@[simp] theorem memWrite_ime (addr : Word) (v : Byte) :
    (memWrite addr v s).ime = s.ime := rfl
@[simp] theorem memWrite_imePending (addr : Word) (v : Byte) :
    (memWrite addr v s).imePending = s.imePending := rfl
@[simp] theorem memWrite_mode (addr : Word) (v : Byte) :
    (memWrite addr v s).mode = s.mode := rfl
@[simp] theorem memWrite_locked (addr : Word) (v : Byte) :
    (memWrite addr v s).locked = s.locked := rfl
@[simp] theorem memWrite_mCycles (addr : Word) (v : Byte) :
    (memWrite addr v s).mCycles = s.mCycles := rfl
@[simp] theorem memWrite_tStates (addr : Word) (v : Byte) :
    (memWrite addr v s).tStates = s.tStates := rfl
@[simp] theorem memWrite_mem (addr : Word) (v : Byte) :
    (memWrite addr v s).mem = Memory.write s.mem addr v := rfl
@[simp] theorem memWrite_bus (addr : Word) (v : Byte) :
    (memWrite addr v s).bus = s.bus ++ [.write addr v] := rfl
@[simp] theorem memWrite_outcome (addr : Word) (v : Byte) :
    (memWrite addr v s).outcome = s.outcome := rfl
@[simp] theorem memWrite_env (addr : Word) (v : Byte) :
    (memWrite addr v s).env = s.env := rfl
@[simp] theorem memWrite_stopWakeReads (addr : Word) (v : Byte) :
    (memWrite addr v s).stopWakeReads = s.stopWakeReads := rfl

/-- A read of the address just written gives the byte written. -/
@[simp] theorem memWrite_readByte_same (addr : Word) (v : Byte) : (memWrite addr v s).readByte addr = v := by
  simp [State.readByte]

/-- A write leaves every other byte as it was. -/
theorem memWrite_readByte_other (addr b : Word) (v : Byte) (h : b ≠ addr) :
    (memWrite addr v s).readByte b = s.readByte b := by
  simp [State.readByte, Memory.read_write_other _ _ _ _ h]

@[simp] theorem memWrite16_a (addr w : Word) :
    (memWrite16 addr w s).a = s.a := by
  simp [memWrite16]
@[simp] theorem memWrite16_f (addr w : Word) :
    (memWrite16 addr w s).f = s.f := by
  simp [memWrite16]
@[simp] theorem memWrite16_b (addr w : Word) :
    (memWrite16 addr w s).b = s.b := by
  simp [memWrite16]
@[simp] theorem memWrite16_c (addr w : Word) :
    (memWrite16 addr w s).c = s.c := by
  simp [memWrite16]
@[simp] theorem memWrite16_d (addr w : Word) :
    (memWrite16 addr w s).d = s.d := by
  simp [memWrite16]
@[simp] theorem memWrite16_e (addr w : Word) :
    (memWrite16 addr w s).e = s.e := by
  simp [memWrite16]
@[simp] theorem memWrite16_h (addr w : Word) :
    (memWrite16 addr w s).h = s.h := by
  simp [memWrite16]
@[simp] theorem memWrite16_l (addr w : Word) :
    (memWrite16 addr w s).l = s.l := by
  simp [memWrite16]
@[simp] theorem memWrite16_sp (addr w : Word) :
    (memWrite16 addr w s).sp = s.sp := by
  simp [memWrite16]
@[simp] theorem memWrite16_pc (addr w : Word) :
    (memWrite16 addr w s).pc = s.pc := by
  simp [memWrite16]
@[simp] theorem memWrite16_ime (addr w : Word) :
    (memWrite16 addr w s).ime = s.ime := by
  simp [memWrite16]
@[simp] theorem memWrite16_imePending (addr w : Word) :
    (memWrite16 addr w s).imePending = s.imePending := by
  simp [memWrite16]
@[simp] theorem memWrite16_mode (addr w : Word) :
    (memWrite16 addr w s).mode = s.mode := by
  simp [memWrite16]
@[simp] theorem memWrite16_locked (addr w : Word) :
    (memWrite16 addr w s).locked = s.locked := by
  simp [memWrite16]
@[simp] theorem memWrite16_mCycles (addr w : Word) :
    (memWrite16 addr w s).mCycles = s.mCycles := by
  simp [memWrite16]
@[simp] theorem memWrite16_tStates (addr w : Word) :
    (memWrite16 addr w s).tStates = s.tStates := by
  simp [memWrite16]
@[simp] theorem memWrite16_mem (addr w : Word) :
    (memWrite16 addr w s).mem = Memory.write (Memory.write s.mem addr (low w)) (addr + 1) (high w) := by
  simp [memWrite16]
@[simp] theorem memWrite16_bus (addr w : Word) :
    (memWrite16 addr w s).bus = s.bus ++ [.write addr (low w)] ++ [.write (addr + 1) (high w)] := by
  simp [memWrite16]
@[simp] theorem memWrite16_outcome (addr w : Word) :
    (memWrite16 addr w s).outcome = s.outcome := by
  simp [memWrite16]
@[simp] theorem memWrite16_env (addr w : Word) :
    (memWrite16 addr w s).env = s.env := by
  simp [memWrite16]
@[simp] theorem memWrite16_stopWakeReads (addr w : Word) :
    (memWrite16 addr w s).stopWakeReads = s.stopWakeReads := by
  simp [memWrite16]

@[simp] theorem memRead16_a (addr : Word) :
    ((memRead16 addr s).2).a = s.a := by
  simp [memRead16]
@[simp] theorem memRead16_f (addr : Word) :
    ((memRead16 addr s).2).f = s.f := by
  simp [memRead16]
@[simp] theorem memRead16_b (addr : Word) :
    ((memRead16 addr s).2).b = s.b := by
  simp [memRead16]
@[simp] theorem memRead16_c (addr : Word) :
    ((memRead16 addr s).2).c = s.c := by
  simp [memRead16]
@[simp] theorem memRead16_d (addr : Word) :
    ((memRead16 addr s).2).d = s.d := by
  simp [memRead16]
@[simp] theorem memRead16_e (addr : Word) :
    ((memRead16 addr s).2).e = s.e := by
  simp [memRead16]
@[simp] theorem memRead16_h (addr : Word) :
    ((memRead16 addr s).2).h = s.h := by
  simp [memRead16]
@[simp] theorem memRead16_l (addr : Word) :
    ((memRead16 addr s).2).l = s.l := by
  simp [memRead16]
@[simp] theorem memRead16_sp (addr : Word) :
    ((memRead16 addr s).2).sp = s.sp := by
  simp [memRead16]
@[simp] theorem memRead16_pc (addr : Word) :
    ((memRead16 addr s).2).pc = s.pc := by
  simp [memRead16]
@[simp] theorem memRead16_ime (addr : Word) :
    ((memRead16 addr s).2).ime = s.ime := by
  simp [memRead16]
@[simp] theorem memRead16_imePending (addr : Word) :
    ((memRead16 addr s).2).imePending = s.imePending := by
  simp [memRead16]
@[simp] theorem memRead16_mode (addr : Word) :
    ((memRead16 addr s).2).mode = s.mode := by
  simp [memRead16]
@[simp] theorem memRead16_locked (addr : Word) :
    ((memRead16 addr s).2).locked = s.locked := by
  simp [memRead16]
@[simp] theorem memRead16_mCycles (addr : Word) :
    ((memRead16 addr s).2).mCycles = s.mCycles := by
  simp [memRead16]
@[simp] theorem memRead16_tStates (addr : Word) :
    ((memRead16 addr s).2).tStates = s.tStates := by
  simp [memRead16]
@[simp] theorem memRead16_mem (addr : Word) :
    ((memRead16 addr s).2).mem = s.mem := by
  simp [memRead16]
@[simp] theorem memRead16_readByte (addr : Word) (b : Word) :
    ((memRead16 addr s).2).readByte b = s.readByte b := by
  simp [State.readByte]
@[simp] theorem memRead16_bus (addr : Word) :
    ((memRead16 addr s).2).bus = s.bus ++ [.read addr (s.readByte addr)] ++ [.read (addr + 1) (s.readByte (addr + 1))] := by
  simp [memRead16]
@[simp] theorem memRead16_outcome (addr : Word) :
    ((memRead16 addr s).2).outcome = s.outcome := by
  simp [memRead16]
@[simp] theorem memRead16_env (addr : Word) :
    ((memRead16 addr s).2).env = s.env := by
  simp [memRead16]
@[simp] theorem memRead16_stopWakeReads (addr : Word) :
    ((memRead16 addr s).2).stopWakeReads = s.stopWakeReads := by
  simp [memRead16]

@[simp] theorem memRead16_value (addr : Word) :
    (memRead16 addr s).1 = joinBytes (s.readByte (addr + 1)) (s.readByte addr) := rfl

/-! The counters and `pc`. -/

@[simp] theorem tick_a (n : Nat) :
    (tick n s).a = s.a := rfl
@[simp] theorem tick_f (n : Nat) :
    (tick n s).f = s.f := rfl
@[simp] theorem tick_b (n : Nat) :
    (tick n s).b = s.b := rfl
@[simp] theorem tick_c (n : Nat) :
    (tick n s).c = s.c := rfl
@[simp] theorem tick_d (n : Nat) :
    (tick n s).d = s.d := rfl
@[simp] theorem tick_e (n : Nat) :
    (tick n s).e = s.e := rfl
@[simp] theorem tick_h (n : Nat) :
    (tick n s).h = s.h := rfl
@[simp] theorem tick_l (n : Nat) :
    (tick n s).l = s.l := rfl
@[simp] theorem tick_sp (n : Nat) :
    (tick n s).sp = s.sp := rfl
@[simp] theorem tick_pc (n : Nat) :
    (tick n s).pc = s.pc := rfl
@[simp] theorem tick_ime (n : Nat) :
    (tick n s).ime = s.ime := rfl
@[simp] theorem tick_imePending (n : Nat) :
    (tick n s).imePending = s.imePending := rfl
@[simp] theorem tick_mode (n : Nat) :
    (tick n s).mode = s.mode := rfl
@[simp] theorem tick_locked (n : Nat) :
    (tick n s).locked = s.locked := rfl
@[simp] theorem tick_mCycles (n : Nat) :
    (tick n s).mCycles = s.mCycles + n := rfl
@[simp] theorem tick_tStates (n : Nat) :
    (tick n s).tStates = s.tStates + 4 * n := rfl
@[simp] theorem tick_mem (n : Nat) :
    (tick n s).mem = s.mem := rfl
@[simp] theorem tick_readByte (n : Nat) (b : Word) :
    (tick n s).readByte b = s.readByte b := by
  simp [State.readByte]
@[simp] theorem tick_bus (n : Nat) :
    (tick n s).bus = s.bus := rfl
@[simp] theorem tick_outcome (n : Nat) :
    (tick n s).outcome = s.outcome := rfl
@[simp] theorem tick_env (n : Nat) :
    (tick n s).env = s.env := rfl
@[simp] theorem tick_stopWakeReads (n : Nat) :
    (tick n s).stopWakeReads = s.stopWakeReads := rfl

@[simp] theorem jumpTo_a (target : Word) :
    (jumpTo target s).a = s.a := rfl
@[simp] theorem jumpTo_f (target : Word) :
    (jumpTo target s).f = s.f := rfl
@[simp] theorem jumpTo_b (target : Word) :
    (jumpTo target s).b = s.b := rfl
@[simp] theorem jumpTo_c (target : Word) :
    (jumpTo target s).c = s.c := rfl
@[simp] theorem jumpTo_d (target : Word) :
    (jumpTo target s).d = s.d := rfl
@[simp] theorem jumpTo_e (target : Word) :
    (jumpTo target s).e = s.e := rfl
@[simp] theorem jumpTo_h (target : Word) :
    (jumpTo target s).h = s.h := rfl
@[simp] theorem jumpTo_l (target : Word) :
    (jumpTo target s).l = s.l := rfl
@[simp] theorem jumpTo_sp (target : Word) :
    (jumpTo target s).sp = s.sp := rfl
@[simp] theorem jumpTo_pc (target : Word) :
    (jumpTo target s).pc = target := rfl
@[simp] theorem jumpTo_ime (target : Word) :
    (jumpTo target s).ime = s.ime := rfl
@[simp] theorem jumpTo_imePending (target : Word) :
    (jumpTo target s).imePending = s.imePending := rfl
@[simp] theorem jumpTo_mode (target : Word) :
    (jumpTo target s).mode = s.mode := rfl
@[simp] theorem jumpTo_locked (target : Word) :
    (jumpTo target s).locked = s.locked := rfl
@[simp] theorem jumpTo_mCycles (target : Word) :
    (jumpTo target s).mCycles = s.mCycles := rfl
@[simp] theorem jumpTo_tStates (target : Word) :
    (jumpTo target s).tStates = s.tStates := rfl
@[simp] theorem jumpTo_mem (target : Word) :
    (jumpTo target s).mem = s.mem := rfl
@[simp] theorem jumpTo_readByte (target : Word) (b : Word) :
    (jumpTo target s).readByte b = s.readByte b := by
  simp [State.readByte]
@[simp] theorem jumpTo_bus (target : Word) :
    (jumpTo target s).bus = s.bus := rfl
@[simp] theorem jumpTo_outcome (target : Word) :
    (jumpTo target s).outcome = s.outcome := rfl
@[simp] theorem jumpTo_env (target : Word) :
    (jumpTo target s).env = s.env := rfl
@[simp] theorem jumpTo_stopWakeReads (target : Word) :
    (jumpTo target s).stopWakeReads = s.stopWakeReads := rfl

/-! Immediates. -/

@[simp] theorem imm8_a :
    ((imm8 s).2).a = s.a := rfl
@[simp] theorem imm8_f :
    ((imm8 s).2).f = s.f := rfl
@[simp] theorem imm8_b :
    ((imm8 s).2).b = s.b := rfl
@[simp] theorem imm8_c :
    ((imm8 s).2).c = s.c := rfl
@[simp] theorem imm8_d :
    ((imm8 s).2).d = s.d := rfl
@[simp] theorem imm8_e :
    ((imm8 s).2).e = s.e := rfl
@[simp] theorem imm8_h :
    ((imm8 s).2).h = s.h := rfl
@[simp] theorem imm8_l :
    ((imm8 s).2).l = s.l := rfl
@[simp] theorem imm8_sp :
    ((imm8 s).2).sp = s.sp := rfl
@[simp] theorem imm8_pc :
    ((imm8 s).2).pc = s.pc + 1 := rfl
@[simp] theorem imm8_ime :
    ((imm8 s).2).ime = s.ime := rfl
@[simp] theorem imm8_imePending :
    ((imm8 s).2).imePending = s.imePending := rfl
@[simp] theorem imm8_mode :
    ((imm8 s).2).mode = s.mode := rfl
@[simp] theorem imm8_locked :
    ((imm8 s).2).locked = s.locked := rfl
@[simp] theorem imm8_mCycles :
    ((imm8 s).2).mCycles = s.mCycles := rfl
@[simp] theorem imm8_tStates :
    ((imm8 s).2).tStates = s.tStates := rfl
@[simp] theorem imm8_mem :
    ((imm8 s).2).mem = s.mem := rfl
@[simp] theorem imm8_readByte (b : Word) :
    ((imm8 s).2).readByte b = s.readByte b := by
  simp [State.readByte]
@[simp] theorem imm8_bus :
    ((imm8 s).2).bus = s.bus ++ [.read s.pc (s.readByte s.pc)] := rfl
@[simp] theorem imm8_outcome :
    ((imm8 s).2).outcome = s.outcome := rfl
@[simp] theorem imm8_env :
    ((imm8 s).2).env = s.env := rfl
@[simp] theorem imm8_stopWakeReads :
    ((imm8 s).2).stopWakeReads = s.stopWakeReads := rfl

@[simp] theorem imm8_value : (imm8 s).1 = s.readByte s.pc := rfl

@[simp] theorem imm16_a :
    ((imm16 s).2).a = s.a := by
  simp [imm16]
@[simp] theorem imm16_f :
    ((imm16 s).2).f = s.f := by
  simp [imm16]
@[simp] theorem imm16_b :
    ((imm16 s).2).b = s.b := by
  simp [imm16]
@[simp] theorem imm16_c :
    ((imm16 s).2).c = s.c := by
  simp [imm16]
@[simp] theorem imm16_d :
    ((imm16 s).2).d = s.d := by
  simp [imm16]
@[simp] theorem imm16_e :
    ((imm16 s).2).e = s.e := by
  simp [imm16]
@[simp] theorem imm16_h :
    ((imm16 s).2).h = s.h := by
  simp [imm16]
@[simp] theorem imm16_l :
    ((imm16 s).2).l = s.l := by
  simp [imm16]
@[simp] theorem imm16_sp :
    ((imm16 s).2).sp = s.sp := by
  simp [imm16]
@[simp] theorem imm16_pc :
    ((imm16 s).2).pc = s.pc + 1 + 1 := by
  simp [imm16]
@[simp] theorem imm16_ime :
    ((imm16 s).2).ime = s.ime := by
  simp [imm16]
@[simp] theorem imm16_imePending :
    ((imm16 s).2).imePending = s.imePending := by
  simp [imm16]
@[simp] theorem imm16_mode :
    ((imm16 s).2).mode = s.mode := by
  simp [imm16]
@[simp] theorem imm16_locked :
    ((imm16 s).2).locked = s.locked := by
  simp [imm16]
@[simp] theorem imm16_mCycles :
    ((imm16 s).2).mCycles = s.mCycles := by
  simp [imm16]
@[simp] theorem imm16_tStates :
    ((imm16 s).2).tStates = s.tStates := by
  simp [imm16]
@[simp] theorem imm16_mem :
    ((imm16 s).2).mem = s.mem := by
  simp [imm16]
@[simp] theorem imm16_readByte (b : Word) :
    ((imm16 s).2).readByte b = s.readByte b := by
  simp [State.readByte]
@[simp] theorem imm16_bus :
    ((imm16 s).2).bus = s.bus ++ [.read s.pc (s.readByte s.pc)] ++ [.read (s.pc + 1) (s.readByte (s.pc + 1))] := by
  simp [imm16]
@[simp] theorem imm16_outcome :
    ((imm16 s).2).outcome = s.outcome := by
  simp [imm16]
@[simp] theorem imm16_env :
    ((imm16 s).2).env = s.env := by
  simp [imm16]
@[simp] theorem imm16_stopWakeReads :
    ((imm16 s).2).stopWakeReads = s.stopWakeReads := by
  simp [imm16]

@[simp] theorem imm16_value : (imm16 s).1 = joinBytes (s.readByte (s.pc + 1)) (s.readByte s.pc) := rfl

/-! The stack. -/

@[simp] theorem push16_a (w : Word) :
    (push16 w s).a = s.a := by
  simp [push16]
@[simp] theorem push16_f (w : Word) :
    (push16 w s).f = s.f := by
  simp [push16]
@[simp] theorem push16_b (w : Word) :
    (push16 w s).b = s.b := by
  simp [push16]
@[simp] theorem push16_c (w : Word) :
    (push16 w s).c = s.c := by
  simp [push16]
@[simp] theorem push16_d (w : Word) :
    (push16 w s).d = s.d := by
  simp [push16]
@[simp] theorem push16_e (w : Word) :
    (push16 w s).e = s.e := by
  simp [push16]
@[simp] theorem push16_h (w : Word) :
    (push16 w s).h = s.h := by
  simp [push16]
@[simp] theorem push16_l (w : Word) :
    (push16 w s).l = s.l := by
  simp [push16]
@[simp] theorem push16_sp (w : Word) :
    (push16 w s).sp = s.sp - 2 := by
  simp [push16]
@[simp] theorem push16_pc (w : Word) :
    (push16 w s).pc = s.pc := by
  simp [push16]
@[simp] theorem push16_ime (w : Word) :
    (push16 w s).ime = s.ime := by
  simp [push16]
@[simp] theorem push16_imePending (w : Word) :
    (push16 w s).imePending = s.imePending := by
  simp [push16]
@[simp] theorem push16_mode (w : Word) :
    (push16 w s).mode = s.mode := by
  simp [push16]
@[simp] theorem push16_locked (w : Word) :
    (push16 w s).locked = s.locked := by
  simp [push16]
@[simp] theorem push16_mCycles (w : Word) :
    (push16 w s).mCycles = s.mCycles := by
  simp [push16]
@[simp] theorem push16_tStates (w : Word) :
    (push16 w s).tStates = s.tStates := by
  simp [push16]
@[simp] theorem push16_mem (w : Word) :
    (push16 w s).mem = Memory.write (Memory.write s.mem (s.sp - 1) (high w)) (s.sp - 2) (low w) := by
  simp [push16]
@[simp] theorem push16_bus (w : Word) :
    (push16 w s).bus = s.bus ++ [.write (s.sp - 1) (high w)] ++ [.write (s.sp - 2) (low w)] := by
  simp [push16]
@[simp] theorem push16_outcome (w : Word) :
    (push16 w s).outcome = s.outcome := by
  simp [push16]
@[simp] theorem push16_env (w : Word) :
    (push16 w s).env = s.env := by
  simp [push16]
@[simp] theorem push16_stopWakeReads (w : Word) :
    (push16 w s).stopWakeReads = s.stopWakeReads := by
  simp [push16]

@[simp] theorem pop16_a :
    ((pop16 s).2).a = s.a := by
  simp [pop16]
@[simp] theorem pop16_f :
    ((pop16 s).2).f = s.f := by
  simp [pop16]
@[simp] theorem pop16_b :
    ((pop16 s).2).b = s.b := by
  simp [pop16]
@[simp] theorem pop16_c :
    ((pop16 s).2).c = s.c := by
  simp [pop16]
@[simp] theorem pop16_d :
    ((pop16 s).2).d = s.d := by
  simp [pop16]
@[simp] theorem pop16_e :
    ((pop16 s).2).e = s.e := by
  simp [pop16]
@[simp] theorem pop16_h :
    ((pop16 s).2).h = s.h := by
  simp [pop16]
@[simp] theorem pop16_l :
    ((pop16 s).2).l = s.l := by
  simp [pop16]
@[simp] theorem pop16_sp :
    ((pop16 s).2).sp = s.sp + 2 := by
  simp [pop16]
@[simp] theorem pop16_pc :
    ((pop16 s).2).pc = s.pc := by
  simp [pop16]
@[simp] theorem pop16_ime :
    ((pop16 s).2).ime = s.ime := by
  simp [pop16]
@[simp] theorem pop16_imePending :
    ((pop16 s).2).imePending = s.imePending := by
  simp [pop16]
@[simp] theorem pop16_mode :
    ((pop16 s).2).mode = s.mode := by
  simp [pop16]
@[simp] theorem pop16_locked :
    ((pop16 s).2).locked = s.locked := by
  simp [pop16]
@[simp] theorem pop16_mCycles :
    ((pop16 s).2).mCycles = s.mCycles := by
  simp [pop16]
@[simp] theorem pop16_tStates :
    ((pop16 s).2).tStates = s.tStates := by
  simp [pop16]
@[simp] theorem pop16_mem :
    ((pop16 s).2).mem = s.mem := by
  simp [pop16]
@[simp] theorem pop16_readByte (b : Word) :
    ((pop16 s).2).readByte b = s.readByte b := by
  simp [State.readByte]
@[simp] theorem pop16_bus :
    ((pop16 s).2).bus = s.bus ++ [.read s.sp (s.readByte s.sp)] ++ [.read (s.sp + 1) (s.readByte (s.sp + 1))] := by
  simp [pop16]
@[simp] theorem pop16_outcome :
    ((pop16 s).2).outcome = s.outcome := by
  simp [pop16]
@[simp] theorem pop16_env :
    ((pop16 s).2).env = s.env := by
  simp [pop16]
@[simp] theorem pop16_stopWakeReads :
    ((pop16 s).2).stopWakeReads = s.stopWakeReads := by
  simp [pop16]

@[simp] theorem pop16_value : (pop16 s).1 = joinBytes (s.readByte (s.sp + 1)) (s.readByte s.sp) := rfl

@[simp] theorem returnFromCall_a :
    (returnFromCall s).a = s.a := by
  simp [returnFromCall]
@[simp] theorem returnFromCall_f :
    (returnFromCall s).f = s.f := by
  simp [returnFromCall]
@[simp] theorem returnFromCall_b :
    (returnFromCall s).b = s.b := by
  simp [returnFromCall]
@[simp] theorem returnFromCall_c :
    (returnFromCall s).c = s.c := by
  simp [returnFromCall]
@[simp] theorem returnFromCall_d :
    (returnFromCall s).d = s.d := by
  simp [returnFromCall]
@[simp] theorem returnFromCall_e :
    (returnFromCall s).e = s.e := by
  simp [returnFromCall]
@[simp] theorem returnFromCall_h :
    (returnFromCall s).h = s.h := by
  simp [returnFromCall]
@[simp] theorem returnFromCall_l :
    (returnFromCall s).l = s.l := by
  simp [returnFromCall]
@[simp] theorem returnFromCall_sp :
    (returnFromCall s).sp = s.sp + 2 := by
  simp [returnFromCall]
@[simp] theorem returnFromCall_pc :
    (returnFromCall s).pc = joinBytes (s.readByte (s.sp + 1)) (s.readByte s.sp) := by
  simp [returnFromCall]
@[simp] theorem returnFromCall_ime :
    (returnFromCall s).ime = s.ime := by
  simp [returnFromCall]
@[simp] theorem returnFromCall_imePending :
    (returnFromCall s).imePending = s.imePending := by
  simp [returnFromCall]
@[simp] theorem returnFromCall_mode :
    (returnFromCall s).mode = s.mode := by
  simp [returnFromCall]
@[simp] theorem returnFromCall_locked :
    (returnFromCall s).locked = s.locked := by
  simp [returnFromCall]
@[simp] theorem returnFromCall_mCycles :
    (returnFromCall s).mCycles = s.mCycles := by
  simp [returnFromCall]
@[simp] theorem returnFromCall_tStates :
    (returnFromCall s).tStates = s.tStates := by
  simp [returnFromCall]
@[simp] theorem returnFromCall_mem :
    (returnFromCall s).mem = s.mem := by
  simp [returnFromCall]
@[simp] theorem returnFromCall_readByte (b : Word) :
    (returnFromCall s).readByte b = s.readByte b := by
  simp [State.readByte]
@[simp] theorem returnFromCall_bus :
    (returnFromCall s).bus = s.bus ++ [.read s.sp (s.readByte s.sp)] ++ [.read (s.sp + 1) (s.readByte (s.sp + 1))] := by
  simp [returnFromCall]
@[simp] theorem returnFromCall_outcome :
    (returnFromCall s).outcome = s.outcome := by
  simp [returnFromCall]
@[simp] theorem returnFromCall_env :
    (returnFromCall s).env = s.env := by
  simp [returnFromCall]
@[simp] theorem returnFromCall_stopWakeReads :
    (returnFromCall s).stopWakeReads = s.stopWakeReads := by
  simp [returnFromCall]

/-! Registers and flags. -/

@[simp] theorem writeF_a (v : Byte) :
    (s.writeF v).a = s.a := rfl
@[simp] theorem writeF_f (v : Byte) :
    (s.writeF v).f = v &&& 0xF0 := rfl
@[simp] theorem writeF_b (v : Byte) :
    (s.writeF v).b = s.b := rfl
@[simp] theorem writeF_c (v : Byte) :
    (s.writeF v).c = s.c := rfl
@[simp] theorem writeF_d (v : Byte) :
    (s.writeF v).d = s.d := rfl
@[simp] theorem writeF_e (v : Byte) :
    (s.writeF v).e = s.e := rfl
@[simp] theorem writeF_h (v : Byte) :
    (s.writeF v).h = s.h := rfl
@[simp] theorem writeF_l (v : Byte) :
    (s.writeF v).l = s.l := rfl
@[simp] theorem writeF_sp (v : Byte) :
    (s.writeF v).sp = s.sp := rfl
@[simp] theorem writeF_pc (v : Byte) :
    (s.writeF v).pc = s.pc := rfl
@[simp] theorem writeF_ime (v : Byte) :
    (s.writeF v).ime = s.ime := rfl
@[simp] theorem writeF_imePending (v : Byte) :
    (s.writeF v).imePending = s.imePending := rfl
@[simp] theorem writeF_mode (v : Byte) :
    (s.writeF v).mode = s.mode := rfl
@[simp] theorem writeF_locked (v : Byte) :
    (s.writeF v).locked = s.locked := rfl
@[simp] theorem writeF_mCycles (v : Byte) :
    (s.writeF v).mCycles = s.mCycles := rfl
@[simp] theorem writeF_tStates (v : Byte) :
    (s.writeF v).tStates = s.tStates := rfl
@[simp] theorem writeF_mem (v : Byte) :
    (s.writeF v).mem = s.mem := rfl
@[simp] theorem writeF_readByte (v : Byte) (b : Word) :
    (s.writeF v).readByte b = s.readByte b := by
  simp [State.readByte]
@[simp] theorem writeF_bus (v : Byte) :
    (s.writeF v).bus = s.bus := rfl
@[simp] theorem writeF_outcome (v : Byte) :
    (s.writeF v).outcome = s.outcome := rfl
@[simp] theorem writeF_env (v : Byte) :
    (s.writeF v).env = s.env := rfl
@[simp] theorem writeF_stopWakeReads (v : Byte) :
    (s.writeF v).stopWakeReads = s.stopWakeReads := rfl

@[simp] theorem setFlags_a (zf nf hf cf : Bool) :
    (s.setFlags zf nf hf cf).a = s.a := rfl
@[simp] theorem setFlags_f (zf nf hf cf : Bool) :
    (s.setFlags zf nf hf cf).f = packFlags zf nf hf cf &&& 0xF0 := rfl
@[simp] theorem setFlags_b (zf nf hf cf : Bool) :
    (s.setFlags zf nf hf cf).b = s.b := rfl
@[simp] theorem setFlags_c (zf nf hf cf : Bool) :
    (s.setFlags zf nf hf cf).c = s.c := rfl
@[simp] theorem setFlags_d (zf nf hf cf : Bool) :
    (s.setFlags zf nf hf cf).d = s.d := rfl
@[simp] theorem setFlags_e (zf nf hf cf : Bool) :
    (s.setFlags zf nf hf cf).e = s.e := rfl
@[simp] theorem setFlags_h (zf nf hf cf : Bool) :
    (s.setFlags zf nf hf cf).h = s.h := rfl
@[simp] theorem setFlags_l (zf nf hf cf : Bool) :
    (s.setFlags zf nf hf cf).l = s.l := rfl
@[simp] theorem setFlags_sp (zf nf hf cf : Bool) :
    (s.setFlags zf nf hf cf).sp = s.sp := rfl
@[simp] theorem setFlags_pc (zf nf hf cf : Bool) :
    (s.setFlags zf nf hf cf).pc = s.pc := rfl
@[simp] theorem setFlags_ime (zf nf hf cf : Bool) :
    (s.setFlags zf nf hf cf).ime = s.ime := rfl
@[simp] theorem setFlags_imePending (zf nf hf cf : Bool) :
    (s.setFlags zf nf hf cf).imePending = s.imePending := rfl
@[simp] theorem setFlags_mode (zf nf hf cf : Bool) :
    (s.setFlags zf nf hf cf).mode = s.mode := rfl
@[simp] theorem setFlags_locked (zf nf hf cf : Bool) :
    (s.setFlags zf nf hf cf).locked = s.locked := rfl
@[simp] theorem setFlags_mCycles (zf nf hf cf : Bool) :
    (s.setFlags zf nf hf cf).mCycles = s.mCycles := rfl
@[simp] theorem setFlags_tStates (zf nf hf cf : Bool) :
    (s.setFlags zf nf hf cf).tStates = s.tStates := rfl
@[simp] theorem setFlags_mem (zf nf hf cf : Bool) :
    (s.setFlags zf nf hf cf).mem = s.mem := rfl
@[simp] theorem setFlags_readByte (zf nf hf cf : Bool) (b : Word) :
    (s.setFlags zf nf hf cf).readByte b = s.readByte b := by
  simp [State.readByte]
@[simp] theorem setFlags_bus (zf nf hf cf : Bool) :
    (s.setFlags zf nf hf cf).bus = s.bus := rfl
@[simp] theorem setFlags_outcome (zf nf hf cf : Bool) :
    (s.setFlags zf nf hf cf).outcome = s.outcome := rfl
@[simp] theorem setFlags_env (zf nf hf cf : Bool) :
    (s.setFlags zf nf hf cf).env = s.env := rfl
@[simp] theorem setFlags_stopWakeReads (zf nf hf cf : Bool) :
    (s.setFlags zf nf hf cf).stopWakeReads = s.stopWakeReads := rfl

@[simp] theorem setReg8_f (r : Reg8) (v : Byte) :
    (s.setReg8 r v).f = s.f := by
  cases r <;> rfl
@[simp] theorem setReg8_sp (r : Reg8) (v : Byte) :
    (s.setReg8 r v).sp = s.sp := by
  cases r <;> rfl
@[simp] theorem setReg8_pc (r : Reg8) (v : Byte) :
    (s.setReg8 r v).pc = s.pc := by
  cases r <;> rfl
@[simp] theorem setReg8_ime (r : Reg8) (v : Byte) :
    (s.setReg8 r v).ime = s.ime := by
  cases r <;> rfl
@[simp] theorem setReg8_imePending (r : Reg8) (v : Byte) :
    (s.setReg8 r v).imePending = s.imePending := by
  cases r <;> rfl
@[simp] theorem setReg8_mode (r : Reg8) (v : Byte) :
    (s.setReg8 r v).mode = s.mode := by
  cases r <;> rfl
@[simp] theorem setReg8_locked (r : Reg8) (v : Byte) :
    (s.setReg8 r v).locked = s.locked := by
  cases r <;> rfl
@[simp] theorem setReg8_mCycles (r : Reg8) (v : Byte) :
    (s.setReg8 r v).mCycles = s.mCycles := by
  cases r <;> rfl
@[simp] theorem setReg8_tStates (r : Reg8) (v : Byte) :
    (s.setReg8 r v).tStates = s.tStates := by
  cases r <;> rfl
@[simp] theorem setReg8_mem (r : Reg8) (v : Byte) :
    (s.setReg8 r v).mem = s.mem := by
  cases r <;> rfl
@[simp] theorem setReg8_readByte (r : Reg8) (v : Byte) (b : Word) :
    (s.setReg8 r v).readByte b = s.readByte b := by
  simp [State.readByte]
@[simp] theorem setReg8_bus (r : Reg8) (v : Byte) :
    (s.setReg8 r v).bus = s.bus := by
  cases r <;> rfl
@[simp] theorem setReg8_outcome (r : Reg8) (v : Byte) :
    (s.setReg8 r v).outcome = s.outcome := by
  cases r <;> rfl
@[simp] theorem setReg8_env (r : Reg8) (v : Byte) :
    (s.setReg8 r v).env = s.env := by
  cases r <;> rfl
@[simp] theorem setReg8_stopWakeReads (r : Reg8) (v : Byte) :
    (s.setReg8 r v).stopWakeReads = s.stopWakeReads := by
  cases r <;> rfl

@[simp] theorem setReg8_at_a (v : Byte) : s.setReg8 .a v = { s with a := v } := rfl
@[simp] theorem setReg8_at_b (v : Byte) : s.setReg8 .b v = { s with b := v } := rfl
@[simp] theorem setReg8_at_c (v : Byte) : s.setReg8 .c v = { s with c := v } := rfl
@[simp] theorem setReg8_at_d (v : Byte) : s.setReg8 .d v = { s with d := v } := rfl
@[simp] theorem setReg8_at_e (v : Byte) : s.setReg8 .e v = { s with e := v } := rfl
@[simp] theorem setReg8_at_h (v : Byte) : s.setReg8 .h v = { s with h := v } := rfl
@[simp] theorem setReg8_at_l (v : Byte) : s.setReg8 .l v = { s with l := v } := rfl

@[simp] theorem setReg16_a (r : Reg16) (w : Word) :
    (s.setReg16 r w).a = s.a := by
  cases r <;> rfl
@[simp] theorem setReg16_f (r : Reg16) (w : Word) :
    (s.setReg16 r w).f = s.f := by
  cases r <;> rfl
@[simp] theorem setReg16_pc (r : Reg16) (w : Word) :
    (s.setReg16 r w).pc = s.pc := by
  cases r <;> rfl
@[simp] theorem setReg16_ime (r : Reg16) (w : Word) :
    (s.setReg16 r w).ime = s.ime := by
  cases r <;> rfl
@[simp] theorem setReg16_imePending (r : Reg16) (w : Word) :
    (s.setReg16 r w).imePending = s.imePending := by
  cases r <;> rfl
@[simp] theorem setReg16_mode (r : Reg16) (w : Word) :
    (s.setReg16 r w).mode = s.mode := by
  cases r <;> rfl
@[simp] theorem setReg16_locked (r : Reg16) (w : Word) :
    (s.setReg16 r w).locked = s.locked := by
  cases r <;> rfl
@[simp] theorem setReg16_mCycles (r : Reg16) (w : Word) :
    (s.setReg16 r w).mCycles = s.mCycles := by
  cases r <;> rfl
@[simp] theorem setReg16_tStates (r : Reg16) (w : Word) :
    (s.setReg16 r w).tStates = s.tStates := by
  cases r <;> rfl
@[simp] theorem setReg16_mem (r : Reg16) (w : Word) :
    (s.setReg16 r w).mem = s.mem := by
  cases r <;> rfl
@[simp] theorem setReg16_readByte (r : Reg16) (w : Word) (b : Word) :
    (s.setReg16 r w).readByte b = s.readByte b := by
  simp [State.readByte]
@[simp] theorem setReg16_bus (r : Reg16) (w : Word) :
    (s.setReg16 r w).bus = s.bus := by
  cases r <;> rfl
@[simp] theorem setReg16_outcome (r : Reg16) (w : Word) :
    (s.setReg16 r w).outcome = s.outcome := by
  cases r <;> rfl
@[simp] theorem setReg16_env (r : Reg16) (w : Word) :
    (s.setReg16 r w).env = s.env := by
  cases r <;> rfl
@[simp] theorem setReg16_stopWakeReads (r : Reg16) (w : Word) :
    (s.setReg16 r w).stopWakeReads = s.stopWakeReads := by
  cases r <;> rfl

@[simp] theorem setStackReg_sp (r : StackReg) (w : Word) :
    (s.setStackReg r w).sp = s.sp := by
  cases r <;> rfl
@[simp] theorem setStackReg_pc (r : StackReg) (w : Word) :
    (s.setStackReg r w).pc = s.pc := by
  cases r <;> rfl
@[simp] theorem setStackReg_ime (r : StackReg) (w : Word) :
    (s.setStackReg r w).ime = s.ime := by
  cases r <;> rfl
@[simp] theorem setStackReg_imePending (r : StackReg) (w : Word) :
    (s.setStackReg r w).imePending = s.imePending := by
  cases r <;> rfl
@[simp] theorem setStackReg_mode (r : StackReg) (w : Word) :
    (s.setStackReg r w).mode = s.mode := by
  cases r <;> rfl
@[simp] theorem setStackReg_locked (r : StackReg) (w : Word) :
    (s.setStackReg r w).locked = s.locked := by
  cases r <;> rfl
@[simp] theorem setStackReg_mCycles (r : StackReg) (w : Word) :
    (s.setStackReg r w).mCycles = s.mCycles := by
  cases r <;> rfl
@[simp] theorem setStackReg_tStates (r : StackReg) (w : Word) :
    (s.setStackReg r w).tStates = s.tStates := by
  cases r <;> rfl
@[simp] theorem setStackReg_mem (r : StackReg) (w : Word) :
    (s.setStackReg r w).mem = s.mem := by
  cases r <;> rfl
@[simp] theorem setStackReg_readByte (r : StackReg) (w : Word) (b : Word) :
    (s.setStackReg r w).readByte b = s.readByte b := by
  simp [State.readByte]
@[simp] theorem setStackReg_bus (r : StackReg) (w : Word) :
    (s.setStackReg r w).bus = s.bus := by
  cases r <;> rfl
@[simp] theorem setStackReg_outcome (r : StackReg) (w : Word) :
    (s.setStackReg r w).outcome = s.outcome := by
  cases r <;> rfl
@[simp] theorem setStackReg_env (r : StackReg) (w : Word) :
    (s.setStackReg r w).env = s.env := by
  cases r <;> rfl
@[simp] theorem setStackReg_stopWakeReads (r : StackReg) (w : Word) :
    (s.setStackReg r w).stopWakeReads = s.stopWakeReads := by
  cases r <;> rfl

/-! Interrupts and the ends of a step. -/

@[simp] theorem dispatchInterrupt_a (n : Nat) (ifl : Byte) :
    (dispatchInterrupt n ifl s).a = s.a := by
  simp [dispatchInterrupt, ioWriteIF]
@[simp] theorem dispatchInterrupt_f (n : Nat) (ifl : Byte) :
    (dispatchInterrupt n ifl s).f = s.f := by
  simp [dispatchInterrupt, ioWriteIF]
@[simp] theorem dispatchInterrupt_b (n : Nat) (ifl : Byte) :
    (dispatchInterrupt n ifl s).b = s.b := by
  simp [dispatchInterrupt, ioWriteIF]
@[simp] theorem dispatchInterrupt_c (n : Nat) (ifl : Byte) :
    (dispatchInterrupt n ifl s).c = s.c := by
  simp [dispatchInterrupt, ioWriteIF]
@[simp] theorem dispatchInterrupt_d (n : Nat) (ifl : Byte) :
    (dispatchInterrupt n ifl s).d = s.d := by
  simp [dispatchInterrupt, ioWriteIF]
@[simp] theorem dispatchInterrupt_e (n : Nat) (ifl : Byte) :
    (dispatchInterrupt n ifl s).e = s.e := by
  simp [dispatchInterrupt, ioWriteIF]
@[simp] theorem dispatchInterrupt_h (n : Nat) (ifl : Byte) :
    (dispatchInterrupt n ifl s).h = s.h := by
  simp [dispatchInterrupt, ioWriteIF]
@[simp] theorem dispatchInterrupt_l (n : Nat) (ifl : Byte) :
    (dispatchInterrupt n ifl s).l = s.l := by
  simp [dispatchInterrupt, ioWriteIF]
@[simp] theorem dispatchInterrupt_sp (n : Nat) (ifl : Byte) :
    (dispatchInterrupt n ifl s).sp = s.sp - 2 := by
  simp [dispatchInterrupt, ioWriteIF]
@[simp] theorem dispatchInterrupt_pc (n : Nat) (ifl : Byte) :
    (dispatchInterrupt n ifl s).pc = interruptVector n := by
  simp [dispatchInterrupt, ioWriteIF]
@[simp] theorem dispatchInterrupt_ime (n : Nat) (ifl : Byte) :
    (dispatchInterrupt n ifl s).ime = false := by
  simp [dispatchInterrupt, ioWriteIF]
@[simp] theorem dispatchInterrupt_imePending (n : Nat) (ifl : Byte) :
    (dispatchInterrupt n ifl s).imePending = false := by
  simp [dispatchInterrupt, ioWriteIF]
@[simp] theorem dispatchInterrupt_mode (n : Nat) (ifl : Byte) :
    (dispatchInterrupt n ifl s).mode = s.mode := by
  simp [dispatchInterrupt, ioWriteIF]
@[simp] theorem dispatchInterrupt_locked (n : Nat) (ifl : Byte) :
    (dispatchInterrupt n ifl s).locked = s.locked := by
  simp [dispatchInterrupt, ioWriteIF]
@[simp] theorem dispatchInterrupt_mCycles (n : Nat) (ifl : Byte) :
    (dispatchInterrupt n ifl s).mCycles = s.mCycles + 5 := by
  simp [dispatchInterrupt, ioWriteIF]
@[simp] theorem dispatchInterrupt_tStates (n : Nat) (ifl : Byte) :
    (dispatchInterrupt n ifl s).tStates = s.tStates + 4 * 5 := by
  simp [dispatchInterrupt, ioWriteIF]
@[simp] theorem dispatchInterrupt_mem (n : Nat) (ifl : Byte) :
    (dispatchInterrupt n ifl s).mem = Memory.write (Memory.write (Memory.write s.mem ifAddr (ifl &&& ~~~(bitMask n)))
      (s.sp - 1) (high s.pc)) (s.sp - 2) (low s.pc) := by
  simp [dispatchInterrupt, ioWriteIF]
@[simp] theorem dispatchInterrupt_bus (n : Nat) (ifl : Byte) :
    (dispatchInterrupt n ifl s).bus = s.bus ++ [.write ifAddr (ifl &&& ~~~(bitMask n))] ++ [.write (s.sp - 1) (high s.pc)] ++
      [.write (s.sp - 2) (low s.pc)] := by
  simp [dispatchInterrupt, ioWriteIF]
@[simp] theorem dispatchInterrupt_outcome (n : Nat) (ifl : Byte) :
    (dispatchInterrupt n ifl s).outcome = s.outcome := by
  simp [dispatchInterrupt, ioWriteIF]
@[simp] theorem dispatchInterrupt_env (n : Nat) (ifl : Byte) :
    (dispatchInterrupt n ifl s).env = s.env := by
  simp [dispatchInterrupt, ioWriteIF]
@[simp] theorem dispatchInterrupt_stopWakeReads (n : Nat) (ifl : Byte) :
    (dispatchInterrupt n ifl s).stopWakeReads = s.stopWakeReads := by
  simp [dispatchInterrupt, ioWriteIF]

@[simp] theorem endStep_a (what : StepOutcome) :
    (endStep what s).a = s.a := rfl
@[simp] theorem endStep_f (what : StepOutcome) :
    (endStep what s).f = s.f := rfl
@[simp] theorem endStep_b (what : StepOutcome) :
    (endStep what s).b = s.b := rfl
@[simp] theorem endStep_c (what : StepOutcome) :
    (endStep what s).c = s.c := rfl
@[simp] theorem endStep_d (what : StepOutcome) :
    (endStep what s).d = s.d := rfl
@[simp] theorem endStep_e (what : StepOutcome) :
    (endStep what s).e = s.e := rfl
@[simp] theorem endStep_h (what : StepOutcome) :
    (endStep what s).h = s.h := rfl
@[simp] theorem endStep_l (what : StepOutcome) :
    (endStep what s).l = s.l := rfl
@[simp] theorem endStep_sp (what : StepOutcome) :
    (endStep what s).sp = s.sp := rfl
@[simp] theorem endStep_pc (what : StepOutcome) :
    (endStep what s).pc = s.pc := rfl
@[simp] theorem endStep_ime (what : StepOutcome) :
    (endStep what s).ime = s.ime := rfl
@[simp] theorem endStep_imePending (what : StepOutcome) :
    (endStep what s).imePending = s.imePending := rfl
@[simp] theorem endStep_mode (what : StepOutcome) :
    (endStep what s).mode = s.mode := rfl
@[simp] theorem endStep_locked (what : StepOutcome) :
    (endStep what s).locked = s.locked := rfl
@[simp] theorem endStep_mCycles (what : StepOutcome) :
    (endStep what s).mCycles = s.mCycles := rfl
@[simp] theorem endStep_tStates (what : StepOutcome) :
    (endStep what s).tStates = s.tStates := rfl
@[simp] theorem endStep_mem (what : StepOutcome) :
    (endStep what s).mem = s.mem := rfl
@[simp] theorem endStep_readByte (what : StepOutcome) (b : Word) :
    (endStep what s).readByte b = s.readByte b := by
  simp [State.readByte]
@[simp] theorem endStep_bus (what : StepOutcome) :
    (endStep what s).bus = s.bus := rfl
@[simp] theorem endStep_outcome (what : StepOutcome) :
    (endStep what s).outcome = some what := rfl
@[simp] theorem endStep_env (what : StepOutcome) :
    (endStep what s).env = s.env := rfl
@[simp] theorem endStep_stopWakeReads (what : StepOutcome) :
    (endStep what s).stopWakeReads = s.stopWakeReads := rfl

end Sys2Proof.Machine
end

