-- ==== Sys2Proof/Laws/Flags.lean ====
section
/-! SUPPORT. The laws of the flag computations: what `F` holds after each of them, and that nothing but `A` and `F`
changes. -/

namespace Sys2Proof.Machine

variable (s : State)

/-! ## The flag byte -/

@[simp] theorem packFlags_masked (z n h c : Bool) : packFlags z n h c &&& 240#8 = packFlags z n h c := by
  revert z n h c; decide

@[simp] theorem packFlags_lowNibble (z n h c : Bool) : packFlags z n h c &&& 15#8 = 0#8 := by
  revert z n h c; decide

@[simp] theorem packFlags_z (z n h c : Bool) : (packFlags z n h c)[7] = z := by revert z n h c; decide

@[simp] theorem packFlags_n (z n h c : Bool) : (packFlags z n h c)[6] = n := by revert z n h c; decide

@[simp] theorem packFlags_h (z n h c : Bool) : (packFlags z n h c)[5] = h := by revert z n h c; decide

@[simp] theorem packFlags_c (z n h c : Bool) : (packFlags z n h c)[4] = c := by revert z n h c; decide

/-- Setting the flags is one update of `F`. -/
theorem setFlags_eq (z n h c : Bool) : s.setFlags z n h c = { s with f := packFlags z n h c } := by
  simp [State.setFlags, State.writeF]

@[simp] theorem setFlags_flagZ (z n h c : Bool) : (s.setFlags z n h c).flagZ = z := by
  simp [State.flagZ]

@[simp] theorem setFlags_flagN (z n h c : Bool) : (s.setFlags z n h c).flagN = n := by
  simp [State.flagN]

@[simp] theorem setFlags_flagH (z n h c : Bool) : (s.setFlags z n h c).flagH = h := by
  simp [State.flagH]

@[simp] theorem setFlags_flagC (z n h c : Bool) : (s.setFlags z n h c).flagC = c := by
  simp [State.flagC]

@[simp] theorem mask_lowNibble (v : Byte) : v &&& 240#8 &&& 15#8 = 0#8 := by
  rw [BitVec.and_assoc]; simp

@[simp] theorem writeF_lowNibble (v : Byte) : (s.writeF v).f &&& 0x0F = 0 := by simp

@[simp] theorem setFlags_lowNibble (z n h c : Bool) : (s.setFlags z n h c).f &&& 0x0F = 0 := by simp

/-! ## What each computation changes -/

/-- An accumulator operation changes `A` and `F` and nothing else. -/
theorem accumulate_frame (op : AluOp) (v : Byte) :
    accumulate op v s = { s with a := (accumulate op v s).a, f := (accumulate op v s).f } := by
  cases op <;> rfl

/-- An accumulator operation leaves the low nibble of `F` at 0. -/
theorem accumulate_lowNibble (op : AluOp) (v : Byte) : (accumulate op v s).f &&& 0x0F = 0 := by
  cases op <;> exact setFlags_lowNibble _ _ _ _ _

theorem incFlags_eq (v : Byte) :
    incFlags v s = { s with f := packFlags (v + 1 == 0) false (decide (v.toNat % 16 + 1 > 15)) s.flagC } :=
  setFlags_eq ..

theorem decFlags_eq (v : Byte) :
    decFlags v s = { s with f := packFlags (v - 1 == 0) true (decide (v.toNat % 16 < 1)) s.flagC } :=
  setFlags_eq ..

theorem shiftFlags_eq (res : Byte) (c : Bool) :
    shiftFlags res c s = { s with f := packFlags (res == 0) false false c } := setFlags_eq ..

theorem bitTestFlags_eq (n : Nat) (v : Byte) :
    bitTestFlags n v s = { s with f := packFlags (!v.getLsbD n) false true s.flagC } := setFlags_eq ..

theorem addHlFlags_eq (x y : Word) :
    addHlFlags x y s = { s with
      f := packFlags s.flagZ false
        (decide (x.toNat % 4096 + y.toNat % 4096 > 4095)) (decide (x.toNat + y.toNat > 65535)) } := setFlags_eq ..

theorem spOffsetFlags_eq (sp : Word) (e : Byte) :
    spOffsetFlags sp e s =
      { s with f := packFlags false false (add8 (low sp) e false).h (add8 (low sp) e false).c } := setFlags_eq ..

/-! ## The exact sums -/

/-- `add8` without a carry-in is the modular sum. -/
theorem add8_res (x y : Byte) : (add8 x y false).res = x + y := by
  apply BitVec.eq_of_toNat_eq
  simp [add8, BitVec.toNat_add]

/-- `sub8` without a borrow-in is the modular difference. -/
theorem sub8_res (x y : Byte) : (sub8 x y false).res = x - y := by
  apply BitVec.eq_of_toNat_eq
  have hx := x.isLt
  have hy := y.isLt
  simp only [sub8, BitVec.toNat_ofInt, BitVec.toNat_sub, Bool.toNat_false]
  omega

end Sys2Proof.Machine
end

