-- ==== Sys2Proof/Laws/Ops.lean ====
section
/-! SUPPORT. One law per shared operation for what `Laws/State.lean` does not say field by field: memory keeps its
canonical form, the bytes a store leaves alone, and the stack gives back what it took. -/

namespace Sys2Proof.Machine

variable (s : State)

/-! ## The canonical form of memory -/

theorem memWrite_wf (h : Memory.wf s.mem) (addr : Word) (v : Byte) : Memory.wf (memWrite addr v s).mem :=
  Memory.wf_write h addr v

theorem memWrite16_wf (h : Memory.wf s.mem) (addr w : Word) : Memory.wf (memWrite16 addr w s).mem :=
  Memory.wf_write (Memory.wf_write h _ _) _ _

theorem push16_wf (h : Memory.wf s.mem) (w : Word) : Memory.wf (push16 w s).mem :=
  Memory.wf_write (Memory.wf_write h _ _) _ _

theorem dispatchInterrupt_wf (h : Memory.wf s.mem) (n : Nat) (ifl : Byte) :
    Memory.wf (dispatchInterrupt n ifl s).mem := by
  simpa only [dispatchInterrupt_mem] using Memory.wf_write (Memory.wf_write (Memory.wf_write h _ _) _ _) _ _

theorem placeBytes_wf {m : Memory} (h : Memory.wf m) (addr : Word) (bytes : List Byte) :
    Memory.wf (placeBytes addr bytes m) := by
  induction bytes generalizing addr m with
  | nil => exact h
  | cons v rest ih => exact ih (Memory.wf_write h addr v) (addr + 1)

theorem withFetchWord_wf (h : Memory.wf s.mem) (nbits w : Nat) : Memory.wf (s.withFetchWord nbits w).mem :=
  placeBytes_wf h _ _

theorem beginStep_wf (h : Memory.wf s.mem) : Memory.wf (beginStep s).mem := by
  unfold beginStep
  split
  · exact h
  · exact Memory.wf_writeAll h _

theorem ofReset_wf (r : Config.ResetRecord) : Memory.wf (State.ofReset r).mem :=
  Memory.wf_writeAll Memory.wf_nil _

theorem reset_wf : Memory.wf State.reset.mem := ofReset_wf _

/-! ## The stack and the transfer of control as one update -/

/-- A push is one update of memory, the transcript and `sp`. -/
theorem push16_eq (w : Word) :
    push16 w s = { s with
      mem := Memory.write (Memory.write s.mem (s.sp - 1) (high w)) (s.sp - 2) (low w)
      bus := s.bus ++ [.write (s.sp - 1) (high w)] ++ [.write (s.sp - 2) (low w)]
      sp := s.sp - 2 } := rfl

/-- A pop is one update of the transcript and `sp`. -/
theorem pop16_eq :
    (pop16 s).2 = { s with
      bus := s.bus ++ [.read s.sp (s.readByte s.sp)] ++ [.read (s.sp + 1) (s.readByte (s.sp + 1))]
      sp := s.sp + 2 } := rfl

/-- A return is one update of the transcript, `sp` and `pc`. -/
theorem returnFromCall_eq :
    returnFromCall s = { s with
      bus := s.bus ++ [.read s.sp (s.readByte s.sp)] ++ [.read (s.sp + 1) (s.readByte (s.sp + 1))]
      sp := s.sp + 2
      pc := joinBytes (s.readByte (s.sp + 1)) (s.readByte s.sp) } := rfl

/-- A dispatch is one update of memory, the transcript, `sp`, `pc`, the enables and the counters. -/
theorem dispatchInterrupt_eq (n : Nat) (ifl : Byte) :
    dispatchInterrupt n ifl s = { s with
      mem := Memory.write (Memory.write (Memory.write s.mem ifAddr (ifl &&& ~~~(bitMask n))) (s.sp - 1) (high s.pc))
        (s.sp - 2) (low s.pc)
      bus := s.bus ++ [.write ifAddr (ifl &&& ~~~(bitMask n))] ++ [.write (s.sp - 1) (high s.pc)] ++
        [.write (s.sp - 2) (low s.pc)]
      sp := s.sp - 2
      pc := interruptVector n
      ime := false
      imePending := false
      mCycles := s.mCycles + 5
      tStates := s.tStates + 20 } := by
  simp [dispatchInterrupt, ioWriteIF, push16_eq, jumpTo, tick, memWrite]

/-! ## What a store leaves alone -/

theorem memWrite16_readByte_other (addr w b : Word) (h : b ≠ addr) (h' : b ≠ addr + 1) :
    (memWrite16 addr w s).readByte b = s.readByte b :=
  (Memory.read_write_other _ _ _ _ h').trans (Memory.read_write_other _ _ _ _ h)

theorem push16_readByte_other (w b : Word) (h : b ≠ s.sp - 1) (h' : b ≠ s.sp - 2) :
    (push16 w s).readByte b = s.readByte b :=
  (Memory.read_write_other _ _ _ _ h').trans (Memory.read_write_other _ _ _ _ h)

/-- The two stack cells after a push: the low byte is at the new `sp`. -/
theorem push16_readByte (w : Word) :
    (push16 w s).readByte (s.sp - 2) = low w ∧ (push16 w s).readByte (s.sp - 1) = high w := by
  have h : s.sp - 1 ≠ s.sp - 2 := by bv_omega
  exact ⟨Memory.read_write_same _ _ _,
    (Memory.read_write_other _ _ _ _ h).trans (Memory.read_write_same _ _ _)⟩

/-- A pop gives back what a push took, and `sp` is as it was. -/
theorem pop16_push16 (w : Word) : (pop16 (push16 w s)).1 = w ∧ (pop16 (push16 w s)).2.sp = s.sp := by
  have h : s.sp - 2 + 1 = s.sp - 1 := by bv_omega
  have h' : s.sp - 2 + 2 = s.sp := by bv_omega
  rw [pop16_value, pop16_sp, push16_sp, h, h', (push16_readByte s w).1, (push16_readByte s w).2, join_high_low]
  exact ⟨rfl, rfl⟩

/-! ## The step -/

/-- What happens before a step touches memory, the script and the outputs only. -/
theorem beginStep_frame :
    beginStep s = { s with mem := (beginStep s).mem, bus := [], outcome := none, env := s.env.tail } := by
  unfold beginStep
  split <;> simp [*]

/-- A step is what the other agents do, then one step of the core with the free value of `stop_wake`. -/
theorem step_eq : step s = coreStep (Config.stopWake s.stopWakeReads) (beginStep s) := rfl

/-- The EI promotion touches the two enables only. -/
theorem promoteIme_frame (p : Bool) :
    promoteIme p s = { s with ime := (p && s.imePending) || s.ime, imePending := !p && s.imePending } := by
  obtain ⟨a, f, b, c, d, e, h, l, sp, pc, ime, pend, mode, locked, m, t, mem, bus, out, env, k⟩ := s
  cases p <;> cases pend <;> cases ime <;> rfl

end Sys2Proof.Machine
end

