-- ==== Sys2Proof/Laws/Families.lean ====
section
/-! SUPPORT. One law per operation of the instruction families: the whole next state as one update, in the terms of
`Safety.lean`. A field the update does not name is unchanged. -/

namespace Sys2Proof.Machine

variable (s : State)

theorem memWrite_eq (addr : Word) (v : Byte) : memWrite addr v s = s.withWrite addr v := rfl

theorem memRead_eq (addr : Word) : memRead addr s = (s.readByte addr, s.withRead addr) := rfl

@[simp] theorem withRead_readByte (addr b : Word) : (s.withRead addr).readByte b = s.readByte b := rfl

/-! ## Loads -/

theorem opLdRegInd_eq (dst : Reg8) : opLdRegInd dst s = (s.withRead s.hl).setReg8 dst (s.readByte s.hl) := rfl

theorem opLdIndReg_eq (src : Reg8) : opLdIndReg src s = s.withWrite s.hl (s.reg8 src) := rfl

theorem opLoadA_eq (addr : Word) : opLoadA addr s = { s.withRead addr with a := s.readByte addr } := rfl

theorem opPushPair_eq (r : StackReg) :
    opPushPair r s = { (s.withWrite (s.sp - 1) (high (s.stackReg r))).withWrite (s.sp - 2) (low (s.stackReg r)) with
      sp := s.sp - 2 } := rfl

theorem opPopPair_eq (r : StackReg) :
    opPopPair r s = { (s.withRead s.sp).withRead (s.sp + 1) with sp := s.sp + 2 }.setStackReg r
      (joinBytes (s.readByte (s.sp + 1)) (s.readByte s.sp)) := rfl

/-! ## Arithmetic -/

theorem opAluInd_eq (op : AluOp) : opAluInd op s = accumulate op (s.readByte s.hl) (s.withRead s.hl) := rfl

theorem opIncReg_eq (r : Reg8) :
    opIncReg r s = { s with
      f := packFlags (s.reg8 r + 1 == 0) false (decide ((s.reg8 r).toNat % 16 + 1 > 15)) s.flagC }.setReg8 r
        (s.reg8 r + 1) := by
  rw [opIncReg, incFlags_eq]

theorem opDecReg_eq (r : Reg8) :
    opDecReg r s = { s with
      f := packFlags (s.reg8 r - 1 == 0) true (decide ((s.reg8 r).toNat % 16 < 1)) s.flagC }.setReg8 r
        (s.reg8 r - 1) := by
  rw [opDecReg, decFlags_eq]

theorem opIncInd_eq :
    opIncInd s = { (s.withRead s.hl).withWrite s.hl (s.readByte s.hl + 1) with
      f := packFlags (s.readByte s.hl + 1 == 0) false (decide ((s.readByte s.hl).toNat % 16 + 1 > 15)) s.flagC } :=
  incFlags_eq ..

theorem opDecInd_eq :
    opDecInd s = { (s.withRead s.hl).withWrite s.hl (s.readByte s.hl - 1) with
      f := packFlags (s.readByte s.hl - 1 == 0) true (decide ((s.readByte s.hl).toNat % 16 < 1)) s.flagC } :=
  decFlags_eq ..

/-! ## Control -/

theorem opJpCond_cases (cc : Cond) (n : Word) :
    (s.cond cc = true ∧ opJpCond cc n s = tick 1 (jumpTo n s)) ∨ (s.cond cc = false ∧ opJpCond cc n s = s) := by
  unfold opJpCond; cases s.cond cc <;> simp

theorem opJrCond_cases (cc : Cond) (e : Byte) :
    (s.cond cc = true ∧ opJrCond cc e s = tick 1 (jumpTo (s.pc + sext16 e) s)) ∨
    (s.cond cc = false ∧ opJrCond cc e s = s) := by
  unfold opJrCond; cases s.cond cc <;> simp [opJr]

theorem opCall_eq (target : Word) :
    opCall target s = { (s.withWrite (s.sp - 1) (high s.pc)).withWrite (s.sp - 2) (low s.pc) with
      sp := s.sp - 2
      pc := target } := rfl

theorem opCallCond_cases (cc : Cond) (n : Word) :
    (s.cond cc = true ∧ opCallCond cc n s = tick 3 (opCall n s)) ∨ (s.cond cc = false ∧ opCallCond cc n s = s) := by
  unfold opCallCond; cases s.cond cc <;> simp

theorem opRetCond_cases (cc : Cond) :
    (s.cond cc = true ∧ opRetCond cc s = tick 3 (returnFromCall s)) ∨ (s.cond cc = false ∧ opRetCond cc s = s) := by
  unfold opRetCond; cases s.cond cc <;> simp

/-! ## Rotates, shifts and bits -/

theorem opRotateA_eq (op : ShiftOp) :
    opRotateA op s = { s with
      a := (shifted op s.a s.flagC).1
      f := packFlags false false false (shifted op s.a s.flagC).2 } := setFlags_eq ..

theorem opShiftReg_eq (op : ShiftOp) (r : Reg8) :
    opShiftReg op r s = { s with
      f := packFlags ((shifted op (s.reg8 r) s.flagC).1 == 0) false false
        (shifted op (s.reg8 r) s.flagC).2 }.setReg8 r (shifted op (s.reg8 r) s.flagC).1 := by
  rw [opShiftReg, shiftFlags_eq]

theorem opShiftInd_eq (op : ShiftOp) :
    opShiftInd op s =
      { (s.withRead s.hl).withWrite s.hl (shifted op (s.readByte s.hl) s.flagC).1 with
        f := packFlags ((shifted op (s.readByte s.hl) s.flagC).1 == 0) false false
          (shifted op (s.readByte s.hl) s.flagC).2 } := shiftFlags_eq ..

theorem opBitReg_eq (n : Nat) (r : Reg8) :
    opBitReg n r s = { s with f := packFlags (!(s.reg8 r).getLsbD n) false true s.flagC } := bitTestFlags_eq ..

theorem opBitInd_eq (n : Nat) :
    opBitInd n s = { s.withRead s.hl with f := packFlags (!(s.readByte s.hl).getLsbD n) false true s.flagC } :=
  bitTestFlags_eq ..

theorem opResInd_eq (n : Nat) :
    opResInd n s = (s.withRead s.hl).withWrite s.hl (s.readByte s.hl &&& ~~~(bitMask n)) := rfl

theorem opSetInd_eq (n : Nat) :
    opSetInd n s = (s.withRead s.hl).withWrite s.hl (s.readByte s.hl ||| bitMask n) := rfl

end Sys2Proof.Machine
end

