-- ==== Sys2Proof/Laws/Fetch.lean ====
section
/-! SUPPORT. The laws of the fetch: what it gives for each shape of entry, and how far it moves `pc`. -/

namespace Sys2Proof.Machine

variable (s : State)

theorem fetch_plain (i : Instr) (h : Decoder.tableA (s.readByte s.pc) = .plain i) :
    fetch s = (i, s.fetched 1) := by
  simp only [fetch, imm8, memRead, h]
  rfl

theorem fetch_byteOperand (f : Byte → Instr) (h : Decoder.tableA (s.readByte s.pc) = .byteOperand f) :
    fetch s = (f (s.readByte (s.pc + 1)), s.fetched 2) := by
  simp only [fetch, imm8, memRead, h]
  rfl

theorem fetch_wordOperand (f : Word → Instr) (h : Decoder.tableA (s.readByte s.pc) = .wordOperand f) :
    fetch s = (f (joinBytes (s.readByte (s.pc + 2)) (s.readByte (s.pc + 1))), s.fetched 3) := by
  have e : s.pc + 1 + 1 = s.pc + 2 := by bv_omega
  unfold State.readByte at h
  simp only [fetch, imm16, imm8, memRead, h, State.fetched, State.fetchedByte, State.withRead, State.readByte, e]

theorem fetch_prefixByte (h : Decoder.tableA (s.readByte s.pc) = .prefixByte) :
    fetch s = (Decoder.tableB (s.readByte (s.pc + 1)), s.fetched 2) := by
  simp only [fetch, imm8, memRead, h]
  rfl

/-- Where bytes that decode to `i`, with nothing left over, stand at `pc`, the fetch gives `i` and reads them all. -/
theorem fetch_of_decode (bytes : List Byte) (i : Instr) (hd : decode bytes = .ok (i, [])) (hb : s.BytesAtPc bytes) :
    fetch s = (i, s.fetched bytes.length) := by
  match bytes with
  | [] => cases hd
  | op :: tail =>
    have h0 : s.readByte s.pc = op := by simpa using hb 0 op rfl
    unfold decode at hd
    dsimp only at hd
    split at hd
    · next hf =>
      cases hd
      exact fetch_plain s _ (by rw [h0, hf])
    · next hf =>
      match tail with
      | [] => cases hd
      | v :: rest =>
        cases hd
        have h1 : s.readByte (s.pc + 1) = v := hb 1 v rfl
        rw [fetch_byteOperand s _ (by rw [h0, hf]), h1]
        rfl
    · next hf =>
      match tail with
      | [] => cases hd
      | [_] => cases hd
      | lo :: hi :: rest =>
        cases hd
        have h1 : s.readByte (s.pc + 1) = lo := hb 1 lo rfl
        have h2 : s.readByte (s.pc + 2) = hi := hb 2 hi rfl
        rw [fetch_wordOperand s _ (by rw [h0, hf]), h1, h2]
        rfl
    · next hf =>
      match tail with
      | [] => cases hd
      | op2 :: rest =>
        cases hd
        have h1 : s.readByte (s.pc + 1) = op2 := hb 1 op2 rfl
        rw [fetch_prefixByte s (by rw [h0, hf]), h1]
        rfl

/-- The encoding and the decoding of an instruction together give its bytes. -/
theorem encodedBy_of_decode (i : Instr) (bytes : List Byte) (he : encode i = bytes) (hd : decode bytes = .ok (i, [])) :
    EncodedBy i bytes := ⟨he, fun s hb => fetch_of_decode s bytes i hd hb⟩

/-- The fetch of `n` bytes reads them in order and moves `pc` past them; nothing else changes. -/
theorem fetched_frame (n : Nat) :
    s.fetched n = { s with pc := s.pc + BitVec.ofNat 16 n, bus := (s.fetched n).bus } := by
  induction n generalizing s with
  | zero => simp [State.fetched]
  | succ n ih =>
    rw [State.fetched, ih]
    have e : s.fetchedByte.pc + BitVec.ofNat 16 n = s.pc + BitVec.ofNat 16 (n + 1) := by
      show s.pc + 1 + BitVec.ofNat 16 n = _
      apply BitVec.eq_of_toNat_eq
      simp only [BitVec.ofNat_eq_ofNat, BitVec.toNat_add, BitVec.toNat_ofNat]
      omega
    rw [e]
    rfl

/-- The entry at a first byte gives an instruction whose encoding starts with that byte and goes on with its operand. -/
theorem encode_tableA (op : Byte) :
    match Decoder.tableA op with
    | .plain i => encode i = [op]
    | .byteOperand f => ∀ v, encode (f v) = [op, v]
    | .wordOperand f => ∀ w, encode (f w) = [op, low w, high w]
    | .prefixByte => op = 0xCB := by
  have key : ∀ n < 256,
      match Decoder.tableA (BitVec.ofNat 8 n) with
      | .plain i => encode i = [BitVec.ofNat 8 n]
      | .byteOperand f => ∀ v, encode (f v) = [BitVec.ofNat 8 n, v]
      | .wordOperand f => ∀ w, encode (f w) = [BitVec.ofNat 8 n, low w, high w]
      | .prefixByte => BitVec.ofNat 8 n = 0xCB := by
    intro n h
    interval_cases n <;> first | rfl | exact fun _ => rfl
  simpa using key op.toNat op.isLt

/-- The entry at a second opcode gives an instruction whose encoding is the prefix byte and that opcode. -/
theorem encode_tableB (op2 : Byte) : encode (Decoder.tableB op2) = [0xCB, op2] := by
  have key : ∀ n < 256, encode (Decoder.tableB (BitVec.ofNat 8 n)) = [0xCB, BitVec.ofNat 8 n] := by
    intro n h
    interval_cases n <;> rfl
  simpa using key op2.toNat op2.isLt

/-- Every second opcode selects the operation its fields name: the grid of Table B and R106 agree. -/
theorem tableB_exec (op2 : Byte) : exec (Decoder.tableB op2) s = .next (opTableB op2 s) := by
  have key : ∀ n < 256, exec (Decoder.tableB (BitVec.ofNat 8 n)) s = .next (opTableB (BitVec.ofNat 8 n) s) := by
    intro n h
    interval_cases n <;> rfl
  simpa using key op2.toNat op2.isLt

/-- The cost of a Table B instruction by its fields is its cost in the table. -/
theorem tableB_cycles : ∀ op2 : Byte, baseCycles (Decoder.tableB op2) = tableBCycles op2 := by
  have key : ∀ n < 256, baseCycles (Decoder.tableB (BitVec.ofNat 8 n)) = tableBCycles (BitVec.ofNat 8 n) := by
    intro n h
    interval_cases n <;> rfl
  intro op2
  simpa using key op2.toNat op2.isLt

end Sys2Proof.Machine
end

