-- ==== Sys2Proof/Tests/Slice0.lean ====
section
/-! SUPPORT. The model's own tests, each against a value the spec states (`95_test_vectors.md` unless a test says otherwise),
and one witness for the hypotheses of each statement. -/

namespace Sys2Proof.Tests

open Sys2Proof.Machine

/-- The state after an instruction that completes. -/
def after (i : Instr) (s : State) : State :=
  match exec i s with
  | .next t => t
  | .fault _ => s
  | .refused _ => s

/-- The state after a step that completes, with `stop_wake` false. -/
def stepped (s : State) : State :=
  match coreStep false (beginStep s) with
  | .next t => t
  | .fault _ => s
  | .refused _ => s

/-- The start state of the vectors: the reset state with some bytes placed. What is not placed is unknown. -/
def withBytes (cells : List (Word × Byte)) : State :=
  { State.reset with mem := Memory.writeAll State.reset.mem cells }

/-! ## Well-formedness -/

theorem test_wf_refuses_the_prefix_byte : Instr.prefixCb.wf = false := by decide

theorem test_wf_refuses_the_illegal_bytes : ∀ p ∈ Forms.illegal, p.1.wf = false := by decide

theorem test_wf_accepts : (Instr.ldBN8 0x42).wf = true ∧ Instr.set7IndHl.wf = true := by decide

/-! ## Decoding: one word of each family, written out from its encoding line -/

theorem test_decode_ldBC : decode [0x41] = .ok (.ldBC, []) := rfl
theorem test_decode_ldAIndHld : decode [0x3A] = .ok (.ldAIndHld, []) := rfl
theorem test_decode_ldhIndN8A : decode [0xE0, 0x80] = .ok (.ldhIndN8A 0x80, []) := rfl
theorem test_decode_ldIndN16Sp : decode [0x08, 0xFF, 0xC0] = .ok (.ldIndN16Sp 0xC0FF, []) := rfl
theorem test_decode_popAf : decode [0xF1] = .ok (.popAf, []) := rfl
theorem test_decode_sbcAIndHl : decode [0x9E] = .ok (.sbcAIndHl, []) := rfl
theorem test_decode_addHlSp : decode [0x39] = .ok (.addHlSp, []) := rfl
theorem test_decode_jrNc : decode [0x30, 0xFB] = .ok (.jrNcE8 0xFB, []) := rfl
theorem test_decode_reti : decode [0xD9] = .ok (.reti, []) := rfl
theorem test_decode_ei : decode [0xFB] = .ok (.ei, []) := rfl
theorem test_decode_rra : decode [0x1F] = .ok (.rra, []) := rfl
theorem test_decode_srlIndHl : decode [0xCB, 0x3E] = .ok (.srlIndHl, []) := rfl
theorem test_decode_bit3IndHl : decode [0xCB, 0x5E] = .ok (.bit3IndHl, []) := rfl
theorem test_decode_res3H : decode [0xCB, 0x9C] = .ok (.res3H, []) := rfl

/-- `CB D3` is `SET 2,E`, not a fault (R295). -/
theorem test_decode_set2E : decode [0xCB, 0xD3] = .ok (.set2E, []) := rfl

theorem test_decode_refuses_missing_bytes :
    decode [] = .error .noBytes ∧ decode [0xCD, 0x34] = .error .operandMissing ∧
    decode [0xCB] = .error .secondOpcodeMissing := ⟨rfl, rfl, rfl⟩

/-- Every byte of the grids is there: 16 rows of 16. -/
theorem test_grids_are_full :
    Decoder.gridA.map List.length = List.replicate 16 16 ∧ Decoder.gridB.map List.length = List.replicate 16 16 := by
  decide

theorem test_decodeTableWord :
    decodeTableWord 24 0x1234CD = some (.callN16 0x1234) ∧ decodeTableWord 8 0xCD = some (.callN16 0x0000) ∧
    decodeTableWord 16 0x37CB = some .swapA := ⟨rfl, rfl, rfl⟩

/-- Reset lists `IE` and `IF` and no other byte of memory. -/
theorem test_reset_memory : State.reset.mem = [(0xFF0F, 0x00), (0xFFFF, 0x00)] := rfl

/-- `withFetchWord` places the instruction the next step runs: S1 from reset. -/
theorem test_withFetchWord :
    (stepped (State.reset.withFetchWord 16 0x4206)).b = 0x42 ∧
    (stepped (State.reset.withFetchWord 16 0x4206)).pc = 0x0102 ∧
    (stepped (State.reset.withFetchWord 16 0x4206)).mCycles = 2 := by decide

/-! ## Loads -/

theorem test_ldIndHliA_wraps :
    let t := after .ldIndHliA { State.reset with h := 0xFF, l := 0xFF, a := 0x77 }
    t.hl = 0x0000 ∧ t.readByte 0xFFFF = 0x77 := by decide

theorem test_ldHIndHl_uses_the_old_address :
    let t := after .ldHIndHl { withBytes [(0xC000, 0x99)] with h := 0xC0, l := 0x00 }
    t.h = 0x99 ∧ t.l = 0x00 ∧ t.bus = [.read 0xC000 0x99] := by decide

theorem test_ldhAIndC : (after .ldhAIndC { withBytes [(0xFF44, 0x90)] with c := 0x44 }).a = 0x90 := by decide

theorem test_ldIndN16Sp_wraps :
    let t := after (.ldIndN16Sp 0xFFFF) { State.reset with sp := 0x1234 }
    t.readByte 0xFFFF = 0x34 ∧ t.readByte 0x0000 = 0x12 ∧ t.bus = [.write 0xFFFF 0x34, .write 0x0000 0x12] := by
  decide

theorem test_pushHl_order :
    let t := after .pushHl { State.reset with sp := 0x0001, h := 0xBE, l := 0xEF }
    t.sp = 0xFFFF ∧ t.bus = [.write 0x0000 0xBE, .write 0xFFFF 0xEF] := by decide

theorem test_popAf_drops_the_low_nibble :
    let t := after .popAf { withBytes [(0xCFFE, 0xFF), (0xCFFF, 0x12)] with sp := 0xCFFE }
    t.a = 0x12 ∧ t.f = 0xF0 ∧ t.sp = 0xD000 := by decide

/-! ## Arithmetic -/

/-- `A` and `F` after an instruction that starts with these. -/
def accumulated (i : Instr) (a f : Byte) : Byte × Byte :=
  let t := after i { State.reset with a := a, f := f }
  (t.a, t.f)

/-- Rows of the table of §2.3. -/
theorem test_adc_rows :
    accumulated (.adcAN8 0xFF) 0x00 0x10 = (0x00, 0xB0) ∧ accumulated (.adcAN8 0x0F) 0x0F 0x10 = (0x1F, 0x20) ∧
    accumulated (.adcAN8 0x7F) 0x80 0x10 = (0x00, 0xB0) ∧ accumulated (.adcAN8 0x0F) 0x10 0x10 = (0x20, 0x20) := by
  decide

/-- Rows of the table of §2.3. -/
theorem test_sbc_rows :
    accumulated (.sbcAN8 0xFF) 0x00 0x10 = (0x00, 0xF0) ∧ accumulated (.sbcAN8 0x0F) 0x0F 0x10 = (0xFF, 0x70) ∧
    accumulated (.sbcAN8 0x7F) 0x80 0x10 = (0x00, 0xE0) ∧ accumulated (.sbcAN8 0x00) 0x01 0x10 = (0x00, 0xC0) := by
  decide

/-- S2. -/
theorem test_addAB :
    let t := after .addAB { State.reset with a := 0x3A, b := 0xC6 }
    t.a = 0x00 ∧ t.f = 0xB0 := by decide

theorem test_cp_keeps_a :
    let t := after (.cpAN8 0x40) { State.reset with a := 0x3E }
    t.a = 0x3E ∧ t.f = 0x50 := by decide

theorem test_and_sets_half_carry :
    let t := after (.andAN8 0x3C) { State.reset with a := 0xA5 }
    t.a = 0x24 ∧ t.f = 0x20 := by decide

/-- S3. -/
theorem test_decA :
    let t := after .decA { State.reset with a := 0x00 }
    t.a = 0xFF ∧ t.f = 0x60 := by decide

theorem test_incIndHl :
    let t := after .incIndHl { withBytes [(0xC000, 0xFF)] with h := 0xC0, l := 0x00, f := 0x10 }
    t.readByte 0xC000 = 0x00 ∧ t.f = 0xB0 ∧ t.bus = [.read 0xC000 0xFF, .write 0xC000 0x00] := by decide

/-- Rows of the `DAA` table. -/
theorem test_daa_rows :
    accumulated .daa 0x9A 0x00 = (0x00, 0x90) ∧ accumulated .daa 0x32 0x30 = (0x98, 0x10) ∧
    accumulated .daa 0xFF 0x70 = (0x99, 0x50) ∧ accumulated .daa 0x05 0x60 = (0xFF, 0x40) := by decide

theorem test_ccf : (after .ccf { State.reset with f := 0xF0 }).f = 0x80 := by decide

theorem test_addHlSp :
    let t := after .addHlSp { State.reset with h := 0x00, l := 0x01, sp := 0xFFFF }
    t.hl = 0x0000 ∧ t.f = 0xB0 := by decide

theorem test_addSpE8_negative :
    let t := after (.addSpE8 0x80) { State.reset with sp := 0xFFFE }
    t.sp = 0xFF7E ∧ t.f = 0x10 := by decide

/-! ## Control flow -/

/-- S4. -/
theorem test_call :
    let t := stepped (State.reset.withFetchWord 24 0x1234CD)
    t.pc = 0x1234 ∧ t.sp = 0xFFFC ∧ t.readByte 0xFFFD = 0x01 ∧ t.readByte 0xFFFC = 0x03 ∧ t.mCycles = 6 := by decide

theorem test_jr_back : (stepped (State.reset.withFetchWord 16 0x8018)).pc = 0x0082 := by decide

theorem test_callZ_not_taken :
    let t := stepped { State.reset.withFetchWord 24 0x1234CC with f := 0x00 }
    t.pc = 0x0103 ∧ t.sp = 0xFFFE ∧ t.mCycles = 3 := by decide

theorem test_retC_taken :
    let t := after .retC { withBytes [(0xCFFE, 0x03), (0xCFFF, 0x01)] with sp := 0xCFFE, f := 0x10 }
    t.pc = 0x0103 ∧ t.sp = 0xD000 ∧ t.mCycles = 3 := by decide

theorem test_rst28 : (after .rst28 State.reset).pc = 0x0028 := by decide

/-! ## Rotates and bits -/

theorem test_rlca : (after .rlca { State.reset with a := 0x80 }).a = 0x01 ∧
    (after .rlca { State.reset with a := 0x80 }).f = 0x10 := by decide

theorem test_rra_clears_z : (after .rra { State.reset with a := 0x01, f := 0x80 }).f = 0x10 := by decide

/-- S5. -/
theorem test_swapA :
    let t := stepped { State.reset.withFetchWord 16 0x37CB with a := 0xAB }
    t.a = 0xBA ∧ t.f = 0x00 ∧ t.pc = 0x0102 ∧ t.mCycles = 2 := by decide

theorem test_bit3IndHl_writes_nothing :
    let t := after .bit3IndHl { withBytes [(0xC000, 0xF7)] with h := 0xC0, l := 0x00, f := 0xF0 }
    t.f = 0xB0 ∧ t.bus = [.read 0xC000 0xF7] := by decide

theorem test_set7IndHl :
    let t := after .set7IndHl { withBytes [(0xC000, 0x01)] with h := 0xC0, l := 0x00, f := 0xF0 }
    t.readByte 0xC000 = 0x81 ∧ t.f = 0xF0 := by decide

/-- The prefix byte as a row of its own runs what the next byte selects (R296). -/
theorem test_prefixCb :
    let t := after .prefixCb { State.reset.withFetchWord 8 0x37 with a := 0xAB }
    t.a = 0xBA ∧ t.pc = 0x0101 ∧ t.mCycles = 2 := by decide

/-! ## The cycle -/

/-- S6. -/
theorem test_dispatch :
    let t := stepped { withBytes [(0xFFFF, 0x01), (0xFF0F, 0x01)] with pc := 0x0200 }
    t.ime = false ∧ t.readByte 0xFF0F = 0x00 ∧ t.sp = 0xFFFC ∧ t.readByte 0xFFFD = 0x02 ∧ t.pc = 0x0040 ∧
    t.mCycles = 5 ∧ t.outcome = some (.dispatched 0) := by decide

/-- Joypad only, with the upper bits of `IF` written back as read (D17). -/
theorem test_dispatch_joypad :
    let t := stepped (withBytes [(0xFFFF, 0xFF), (0xFF0F, 0xF0)])
    t.pc = 0x0060 ∧ t.readByte 0xFF0F = 0xE0 := by decide

/-- `EI; DI` with an interrupt pending: never dispatched. -/
theorem test_ei_di :
    let s := { withBytes [(0x0100, 0xFB), (0x0101, 0xF3), (0xFFFF, 0x01), (0xFF0F, 0x01)] with ime := false }
    (stepped s).imePending = true ∧ (stepped (stepped s)).imePending = false ∧ (stepped (stepped s)).ime = false := by
  decide

/-- A halted core is released by a write of another agent, with no dispatch when `ime` is false. -/
theorem test_halt_released :
    let s := { withBytes [(0x0100, 0x04), (0xFFFF, 0x01)] with
      ime := false, mode := .halted, env := [[], [(0xFF0F, 0x01)]] }
    (stepped s).outcome = some .idle ∧ (stepped (stepped s)).b = 0x01 ∧ (stepped (stepped s)).mode = .running := by
  decide

/-- A stopped core reads nothing. -/
theorem test_stopped_idles :
    let t := stepped { withBytes [(0xFFFF, 0x01), (0xFF0F, 0x01)] with mode := .stopped }
    t.outcome = some .idle ∧ t.bus = [] ∧ t.mCycles = 1 := by decide

theorem test_illegal_byte : ∃ t : State, step (State.reset.withFetchWord 8 0xD3) =
    .fault (.illegalOpcode 0xD3 false 0x0100 t) ∧ t.pc = 0x0101 ∧ t.locked = true ∧ t.mCycles = 0 := ⟨_, rfl, rfl, rfl, rfl⟩

/-! ## Witnesses: for each statement with hypotheses, a concrete input that meets them all -/

theorem witness_DecodeAfterEncode :
    (Instr.ldBN8 0xFF).wf = true ∧ (Instr.callN16 0xFFFF).wf = true ∧ Instr.set7A.wf = true ∧ Instr.nop.wf = true := by
  decide

theorem witness_EncodeAfterDecode : decode [0xCB, 0xFF, 0x00] = .ok (.set7A, [0x00]) := rfl

theorem witness_FirstByteSettlesLength :
    (decode (0xCD :: [0x34, 0x12]) = .ok (.callN16 0x1234, []) ∧
      decode (0xCD :: [0xFF, 0xFF, 0x00]) = .ok (.callN16 0xFFFF, [0x00])) ∧
    (decode (0xCB :: [0x00]) = .ok (.rlcB, []) ∧ decode (0xCB :: [0xFF]) = .ok (.set7A, [])) ∧
    (decode (0xD3 :: []) = .ok (.illegalD3, []) ∧ (Instr.illegalD3, 0xD3) ∈ Forms.illegal) :=
  ⟨⟨rfl, rfl⟩, ⟨rfl, rfl⟩, rfl, by simp [Forms.illegal]⟩

theorem witness_IllegalBytesExactly :
    decode (0xFD :: [0x00]) = .ok (.illegalFD, [0x00]) ∧ decode (0xFE :: [0x00]) = .ok (.cpAN8 0x00, []) ∧
    (Instr.illegalD3, 0xD3) ∈ Forms.illegal ∧ (Instr.illegalFD, 0xFD) ∈ Forms.illegal :=
  ⟨rfl, rfl, by simp [Forms.illegal], by simp [Forms.illegal]⟩

theorem witness_ResetRecordIsHonoured :
    let r := { Config.powerOn with image := [(0xFF0E, 0x01), (0xFF0E, 0x02), (0xFFFE, 0x03)] }
    (r.image = [(0xFF0E, 0x01)] ++ (0xFF0E, 0x02) :: [(0xFFFE, 0x03)] ∧
      (∀ w, ((0xFF0E : Word), w) ∉ [((0xFFFE : Word), (0x03 : Byte))]) ∧
      (0xFF0E : Word) ≠ ieAddr ∧ (0xFF0E : Word) ≠ ifAddr) ∧
    (∀ v, ((0xFF10 : Word), v) ∉ r.image) ∧ (0xFF10 : Word) ≠ ieAddr ∧ (0xFF10 : Word) ≠ ifAddr := by
  refine ⟨⟨rfl, by simp, by decide, by decide⟩, by simp, by decide, by decide⟩

theorem witness_StepKeepsInvariant :
    let s := withBytes [(0x0100, 0x3C)]
    s.Inv ∧ ∃ t, step s = .next t :=
  ⟨⟨by decide, Memory.wf_writeAll reset_wf _, rfl, nofun⟩, _, rfl⟩

theorem witness_MemoryIsBytesByAddress :
    (0xFFFF : Word) ≠ 0x0000 ∧ Memory.lookup State.reset.mem 0xFFFF = some 0x00 ∧
    Memory.lookup State.reset.mem 0x0000 = none ∧ Memory.wf [(65535, 0x01)] ∧
    ∀ a : Word, Memory.lookup [(65535, 0x01)] a = Memory.lookup (Memory.write [] 0xFFFF 0x01) a :=
  ⟨by decide, rfl, rfl, by decide, fun _ => rfl⟩

theorem witness_StepRunsDecodedInstruction :
    let s := State.reset.withFetchWord 24 0x1234CD
    beginStep s = s ∧ s.ReadyToExecute ∧
    decode [s.readByte s.pc, s.readByte (s.pc + 1), s.readByte (s.pc + 2)] = .ok (.callN16 0x1234, []) :=
  ⟨rfl, ⟨rfl, rfl, .inr (by decide)⟩, rfl⟩

theorem witness_OtherAgentsChangeOnlyMemory :
    let s := { State.reset with env := [[(0xFFFF, 0x01), (0x0000, 0x02)]] }
    State.reset.env = [] ∧ s.env = [(0xFFFF, 0x01), (0x0000, 0x02)] :: [] ∧
    (∀ v, ((0x0001 : Word), v) ∉ [((0xFFFF : Word), (0x01 : Byte)), (0x0000, 0x02)]) ∧
    [((0xFFFF : Word), (0x01 : Byte)), (0x0000, 0x02)] = [] ++ (0xFFFF, 0x01) :: [(0x0000, 0x02)] ∧
    ∀ w, ((0xFFFF : Word), w) ∉ [((0x0000 : Word), (0x02 : Byte))] :=
  ⟨rfl, rfl, by simp, rfl, by simp⟩

theorem witness_HaltedStep :
    let s := { withBytes [(0xFFFF, 0xE0), (0xFF0F, 0xFF)] with mode := .halted }
    let t := { withBytes [(0xFFFF, 0x10), (0xFF0F, 0x10)] with mode := .halted }
    (s.locked = false ∧ s.mode = .halted ∧ s.pending = 0) ∧ t.locked = false ∧ t.mode = .halted ∧ t.pending ≠ 0 := by
  decide

theorem witness_StoppedStep :
    let s := { State.reset with mode := .stopped }
    let t := { State.reset with mode := .halted }
    s.locked = false ∧ s.mode = .stopped ∧ t.mode ≠ .stopped ∧ State.reset.mode ≠ .stopped := by decide

theorem witness_InterruptDispatch :
    let s := withBytes [(0xFFFF, 0xFF), (0xFF0F, 0xFF)]
    let t := withBytes [(0xFFFF, 0xFF), (0xFF0F, 0xF0)]
    (s.ReadyToDispatch ∧ s.pending.getLsbD 0 = true) ∧
    t.ReadyToDispatch ∧ t.pending.getLsbD 4 = true ∧ ∀ k < 4, t.pending.getLsbD k = false :=
  ⟨⟨⟨rfl, rfl, rfl, by decide⟩, by decide⟩, ⟨rfl, rfl, rfl, by decide⟩, by decide, by decide⟩

theorem witness_IllegalByteFaults :
    let s := State.reset.withFetchWord 8 0xFD
    s.ReadyToExecute ∧ (Instr.illegalFD, s.readByte s.pc) ∈ Forms.illegal :=
  ⟨⟨rfl, rfl, .inr (by decide)⟩, by
    have h : (State.reset.withFetchWord 8 0xFD).readByte (State.reset.withFetchWord 8 0xFD).pc = 0xFD := by decide
    rw [h]
    simp [Forms.illegal]⟩

theorem witness_LockedCoreHasNoStep : { State.reset with locked := true }.locked = true := rfl

theorem witness_OnlyIllegalBytesFault : State.reset.locked = false := rfl

theorem witness_EnableAfterOneInstruction :
    let s := { withBytes [(0x0100, 0xFB), (0x0101, 0xF3), (0x0102, 0x00), (0x0103, 0x00)] with ime := false }
    s.env = [] ∧ s.ReadyToExecute ∧ s.ime = false ∧ s.imePending = false ∧ s.readByte s.pc = 0xFB ∧
    ∃ t, step s = .next t ∧
      decode [t.readByte t.pc, t.readByte (t.pc + 1), t.readByte (t.pc + 2)] = .ok (.di, [0x00, 0x00]) ∧
      ∃ u, step t = .next u :=
  ⟨rfl, ⟨rfl, rfl, .inl rfl⟩, rfl, rfl, rfl, _, rfl, rfl, _, rfl⟩

theorem witness_EveryInstructionCompletes :
    Instr.prefixCb.isIllegal = false ∧ (Instr.stop 0xFF).isIllegal = false ∧ Instr.halt.isIllegal = false := by decide

theorem witness_FlagTable : exec .addAB State.reset = .next (after .addAB State.reset) := rfl

theorem witness_RegisterFrame :
    exec .addAB State.reset = .next (after .addAB State.reset) ∧ Reg8.b ∉ (Forms.facts .addAB).regs ∧
    (Forms.facts .addAB).sp = false := ⟨rfl, by decide, rfl⟩

theorem witness_MemoryFrame :
    exec .pushBc State.reset = .next (after .pushBc State.reset) ∧
    (0xFFFE : Word) ∉ Forms.storedAddrs .pushBc State.reset ∧ (0xFFFB : Word) ∉ Forms.storedAddrs .pushBc State.reset :=
  ⟨rfl, by decide, by decide⟩

theorem witness_ControlFrame :
    (exec .nop State.reset = .next (after .nop State.reset) ∧ (∀ pad, Instr.nop ≠ .stop pad) ∧
      (Forms.facts .nop).control = false) ∧
    exec (.stop 0xFF) State.reset = .next (after (.stop 0xFF) State.reset) ∧ (Forms.facts (.stop 0xFF)).control = false :=
  ⟨⟨rfl, nofun, rfl⟩, rfl, rfl⟩

theorem witness_TakenSurcharge :
    let s := State.reset.withFetchWord 24 0x1234C2
    (Instr.isPrefixByte .retZ = false ∧ exec .retZ State.reset = .next (after .retZ State.reset)) ∧
    s.ReadyToExecute ∧
    decode [s.readByte s.pc, s.readByte (s.pc + 1), s.readByte (s.pc + 2)] = .ok (.jpNzN16 0x1234, []) ∧
    ∃ t, coreStep false s = .next t :=
  ⟨⟨rfl, rfl⟩, ⟨rfl, rfl, .inr (by decide)⟩, rfl, _, rfl⟩

theorem witness_LoadRegister :
    (Instr.ldBB, Reg8.b, Reg8.b) ∈ Forms.ldRegReg ∧ (Instr.ldAA, Reg8.a, Reg8.a) ∈ Forms.ldRegReg ∧
    (Instr.ldBN8, Reg8.b) ∈ Forms.ldRegImm ∧ (Instr.ldAN8, Reg8.a) ∈ Forms.ldRegImm := by
  simp [Forms.ldRegReg, Forms.ldRegImm]

theorem witness_LoadAndStoreAtHl :
    (Instr.ldBIndHl, Reg8.b) ∈ Forms.ldRegInd ∧ (Instr.ldAIndHl, Reg8.a) ∈ Forms.ldRegInd ∧
    (Instr.ldIndHlB, Reg8.b) ∈ Forms.ldIndReg ∧ (Instr.ldIndHlA, Reg8.a) ∈ Forms.ldIndReg := by
  simp [Forms.ldRegInd, Forms.ldIndReg]

theorem witness_LoadPairs : (Instr.ldBcN16, Reg16.bc) ∈ Forms.ldPairImm ∧ (Instr.ldSpN16, Reg16.sp) ∈ Forms.ldPairImm := by
  simp [Forms.ldPairImm]

theorem witness_PushAndPop :
    (Instr.pushBc, StackReg.bc) ∈ Forms.pushPair ∧ (Instr.pushAf, StackReg.af) ∈ Forms.pushPair ∧
    (Instr.popBc, StackReg.bc) ∈ Forms.popPair ∧ (Instr.popAf, StackReg.af) ∈ Forms.popPair := by
  simp [Forms.pushPair, Forms.popPair]

theorem witness_PushThenPopCopies :
    (Instr.pushBc, StackReg.bc) ∈ Forms.pushPair ∧ (Instr.popAf, StackReg.af) ∈ Forms.popPair ∧
    ∃ t u, exec .pushBc State.reset = .next t ∧ exec .popAf t = .next u :=
  ⟨by simp [Forms.pushPair], by simp [Forms.popPair], _, _, rfl, rfl⟩

theorem witness_AddAndAddWithCarry :
    (Instr.addAB, AluOp.add, Reg8.b) ∈ Forms.aluReg ∧ (Instr.adcAA, AluOp.adc, Reg8.a) ∈ Forms.aluReg ∧
    (Instr.addAIndHl, AluOp.add) ∈ Forms.aluInd ∧ (Instr.adcAN8, AluOp.adc) ∈ Forms.aluImm := by
  simp [Forms.aluReg, Forms.aluInd, Forms.aluImm]

theorem witness_SubtractAndCompare :
    (Instr.subAB, AluOp.sub, Reg8.b) ∈ Forms.aluReg ∧ (Instr.cpAA, AluOp.cp, Reg8.a) ∈ Forms.aluReg ∧
    (Instr.sbcAIndHl, AluOp.sbc) ∈ Forms.aluInd ∧ (Instr.cpAN8, AluOp.cp) ∈ Forms.aluImm := by
  simp [Forms.aluReg, Forms.aluInd, Forms.aluImm]

theorem witness_BitwiseLogic :
    (Instr.andAB, AluOp.and, Reg8.b) ∈ Forms.aluReg ∧ (Instr.orAA, AluOp.or, Reg8.a) ∈ Forms.aluReg ∧
    (Instr.xorAIndHl, AluOp.xor) ∈ Forms.aluInd ∧ (Instr.orAN8, AluOp.or) ∈ Forms.aluImm := by
  simp [Forms.aluReg, Forms.aluInd, Forms.aluImm]

theorem witness_IncrementAndDecrement :
    (Instr.incB, Reg8.b) ∈ Forms.incReg ∧ (Instr.incA, Reg8.a) ∈ Forms.incReg ∧
    (Instr.decB, Reg8.b) ∈ Forms.decReg ∧ (Instr.decA, Reg8.a) ∈ Forms.decReg := by
  simp [Forms.incReg, Forms.decReg]

theorem witness_DecimalSumAfterAdd :
    let s := { State.reset with a := 0x99 }
    s.a.toNat % 16 ≤ 9 ∧ s.a.toNat / 16 ≤ 9 ∧ (0x99 : Byte).toNat % 16 ≤ 9 ∧ (0x99 : Byte).toNat / 16 ≤ 9 ∧
    ∃ t u, exec (.addAN8 0x99) s = .next t ∧ exec .daa t = .next u :=
  ⟨by decide, by decide, by decide, by decide, _, _, rfl, rfl⟩

theorem witness_IncrementAndDecrementPairs :
    (Instr.incBc, Reg16.bc) ∈ Forms.incPair ∧ (Instr.incSp, Reg16.sp) ∈ Forms.incPair ∧
    (Instr.decBc, Reg16.bc) ∈ Forms.decPair ∧ (Instr.decSp, Reg16.sp) ∈ Forms.decPair := by
  simp [Forms.incPair, Forms.decPair]

theorem witness_AddToHl : (Instr.addHlBc, Reg16.bc) ∈ Forms.addHl ∧ (Instr.addHlSp, Reg16.sp) ∈ Forms.addHl := by
  simp [Forms.addHl]

theorem witness_AbsoluteJumps : (Instr.jpNzN16, Cond.nz) ∈ Forms.jpCond ∧ (Instr.jpCN16, Cond.c) ∈ Forms.jpCond := by
  simp [Forms.jpCond]

theorem witness_RelativeJumps : (Instr.jrNzE8, Cond.nz) ∈ Forms.jrCond ∧ (Instr.jrCE8, Cond.c) ∈ Forms.jrCond := by
  simp [Forms.jrCond]

theorem witness_Calls :
    (Instr.callNzN16, Cond.nz) ∈ Forms.callCond ∧ (Instr.callCN16, Cond.c) ∈ Forms.callCond ∧
    (Instr.rst00, 0x00) ∈ Forms.rst ∧ (Instr.rst38, 0x38) ∈ Forms.rst := by
  simp [Forms.callCond, Forms.rst]

theorem witness_Returns : (Instr.retNz, Cond.nz) ∈ Forms.retCond ∧ (Instr.retC, Cond.c) ∈ Forms.retCond := by
  simp [Forms.retCond]

theorem witness_CallThenReturn :
    ∃ t u, exec (.callN16 0x1234) State.reset = .next t ∧ t.sp = t.sp ∧ t.readByte t.sp = t.readByte t.sp ∧
      exec .ret t = .next u := ⟨_, _, rfl, rfl, rfl, rfl⟩

theorem witness_ShortRotates : (Instr.rlca, ShiftOp.rlc) ∈ Forms.rotateA ∧ (Instr.rra, ShiftOp.rr) ∈ Forms.rotateA := by
  simp [Forms.rotateA]

theorem witness_ShiftRegister :
    (Instr.rlcB, ShiftOp.rlc, Reg8.b) ∈ Forms.shiftReg ∧ (Instr.srlA, ShiftOp.srl, Reg8.a) ∈ Forms.shiftReg := by
  simp [Forms.shiftReg]

theorem witness_ShiftAtHl : (Instr.rlcIndHl, ShiftOp.rlc) ∈ Forms.shiftInd ∧ (Instr.srlIndHl, ShiftOp.srl) ∈ Forms.shiftInd := by
  simp [Forms.shiftInd]

theorem witness_BitTest :
    (Instr.bit0B, 0, Reg8.b) ∈ Forms.bitReg ∧ (Instr.bit7A, 7, Reg8.a) ∈ Forms.bitReg ∧
    (Instr.bit0IndHl, 0) ∈ Forms.bitInd ∧ (Instr.bit7IndHl, 7) ∈ Forms.bitInd := by
  simp [Forms.bitReg, Forms.bitInd]

theorem witness_BitClear :
    (Instr.res0B, 0, Reg8.b) ∈ Forms.resReg ∧ (Instr.res7A, 7, Reg8.a) ∈ Forms.resReg ∧
    (Instr.res0IndHl, 0) ∈ Forms.resInd ∧ (Instr.res7IndHl, 7) ∈ Forms.resInd := by
  simp [Forms.resReg, Forms.resInd]

theorem witness_BitSet :
    (Instr.set0B, 0, Reg8.b) ∈ Forms.setReg ∧ (Instr.set7A, 7, Reg8.a) ∈ Forms.setReg ∧
    (Instr.set0IndHl, 0) ∈ Forms.setInd ∧ (Instr.set7IndHl, 7) ∈ Forms.setInd := by
  simp [Forms.setReg, Forms.setInd]

end Sys2Proof.Tests
end

section
/-! SUPPORT. What a completed instruction may do, said once for all 512 arms of `exec`. -/

namespace Sys2Proof.Machine

open Forms

/-- The cells of a register of the general 16-bit group (R21, R96). -/
def pairCells (r : Reg16) : List Reg8 :=
  match r with
  | .bc => [.b, .c]
  | .de => [.d, .e]
  | .hl => [.h, .l]
  | .sp => []

/-- The facts of `POP` (R31, R196, R197). -/
def popFacts (r : StackReg) : Facts :=
  match r with
  | .bc => ⟨[.b, .c], true, false, keepRow⟩
  | .de => ⟨[.d, .e], true, false, keepRow⟩
  | .hl => ⟨[.h, .l], true, false, keepRow⟩
  | .af => ⟨[.a], true, false, allRow⟩

/-- The facts of an accumulator operation: `CP` writes no register (R31, R211 to R218). -/
def aluFacts (op : AluOp) : Facts :=
  match op with
  | .add | .adc => ⟨[.a], false, false, addRow⟩
  | .sub | .sbc => ⟨[.a], false, false, subRow⟩
  | .and => ⟨[.a], false, false, andRow⟩
  | .xor | .or => ⟨[.a], false, false, orRow⟩
  | .cp => ⟨[], false, false, subRow⟩

/-- The row of R31 of a rotate, shift or swap of Table B. -/
def shiftOpRow (op : ShiftOp) : FlagRow :=
  match op with
  | .swap => orRow
  | _ => shiftRow

/-- What one instruction may do to `s`: the state after it, its facts, the addresses it stores to, and the m-cycles it
adds to its base cost. `exec_effect` ties these to the tables `facts`, `storedAddrs` and `surcharge`. The six instructions that change an enable or the mode, or stand for Table B, are in `Executed`. -/
inductive Effect (s : State) : State → Facts → List Word → Nat → Prop
  /-- `NOP`, and a conditional that is not taken. -/
  | nothing (sp control : Bool) : Effect s s ⟨[], sp, control, keepRow⟩ [] 0
  | setReg8 (r : Reg8) (v : Byte) : Effect s (s.setReg8 r v) ⟨[r], false, false, keepRow⟩ [] 0
  | loadReg8 (r : Reg8) : Effect s (opLdRegInd r s) ⟨[r], false, false, keepRow⟩ [] 0
  | loadA (addr : Word) : Effect s (opLoadA addr s) ⟨[.a], false, false, keepRow⟩ [] 0
  | setReg16 (r : Reg16) (w : Word) :
      Effect s (s.setReg16 r w) ⟨pairCells r, decide (r = .sp), false, keepRow⟩ [] 0
  | store (addr : Word) (v : Byte) : Effect s (s.withWrite addr v) ⟨[], false, false, keepRow⟩ [addr] 0
  | store16 (addr w : Word) : Effect s (memWrite16 addr w s) ⟨[], false, false, keepRow⟩ [addr, addr + 1] 0
  /-- `RES` and `SET` at `HL`. -/
  | modify (v : Byte) : Effect s ((s.withRead s.hl).withWrite s.hl v) ⟨[], false, false, keepRow⟩ [s.hl] 0
  /-- `LD (HL+),A` and `LD (HL-),A`. -/
  | storeStep (v : Byte) (w : Word) :
      Effect s ((s.withWrite s.hl v).setReg16 .hl w) ⟨[.h, .l], false, false, keepRow⟩ [s.hl] 0
  /-- `LD A,(HL+)` and `LD A,(HL-)`. -/
  | loadStep (w : Word) : Effect s ((opLoadA s.hl s).setReg16 .hl w) ⟨[.a, .h, .l], false, false, keepRow⟩ [] 0
  | push (w : Word) : Effect s (push16 w s) ⟨[], true, false, keepRow⟩ [s.sp - 1, s.sp - 2] 0
  | pop (r : StackReg) : Effect s (opPopPair r s) (popFacts r) [] 0
  | alu (op : AluOp) (v : Byte) : Effect s (accumulate op v s) (aluFacts op) [] 0
  | aluInd (op : AluOp) : Effect s (opAluInd op s) (aluFacts op) [] 0
  | incReg (r : Reg8) : Effect s (opIncReg r s) ⟨[r], false, false, incRow⟩ [] 0
  | decReg (r : Reg8) : Effect s (opDecReg r s) ⟨[r], false, false, decRow⟩ [] 0
  | incInd : Effect s (opIncInd s) ⟨[], false, false, incRow⟩ [s.hl] 0
  | decInd : Effect s (opDecInd s) ⟨[], false, false, decRow⟩ [s.hl] 0
  | daa (v : Byte) (z c : Bool) :
      Effect s ({ s with a := v }.setFlags z s.flagN false c) ⟨[.a], false, false, daaRow⟩ [] 0
  | cpl (v : Byte) :
      Effect s ({ s with a := v }.setFlags s.flagZ true true s.flagC) ⟨[.a], false, false, cplRow⟩ [] 0
  | scf : Effect s (s.setFlags s.flagZ false false true) ⟨[], false, false, scfRow⟩ [] 0
  | ccf : Effect s (s.setFlags s.flagZ false false (!s.flagC)) ⟨[], false, false, ccfRow⟩ [] 0
  | addHl (r : Reg16) : Effect s (opAddHl r s) ⟨[.h, .l], false, false, addHlRow⟩ [] 0
  | addSp (e : Byte) (w : Word) :
      Effect s { spOffsetFlags s.sp e s with sp := w } ⟨[], true, false, spOffsetRow⟩ [] 0
  | loadHlSp (e : Byte) (w : Word) :
      Effect s ((spOffsetFlags s.sp e s).setReg16 .hl w) ⟨[.h, .l], false, false, spOffsetRow⟩ [] 0
  | rotateA (op : ShiftOp) : Effect s (opRotateA op s) ⟨[.a], false, false, shortRotateRow⟩ [] 0
  | shiftReg (op : ShiftOp) (r : Reg8) : Effect s (opShiftReg op r s) ⟨[r], false, false, shiftOpRow op⟩ [] 0
  | shiftInd (op : ShiftOp) : Effect s (opShiftInd op s) ⟨[], false, false, shiftOpRow op⟩ [s.hl] 0
  | bitReg (n : Nat) (r : Reg8) : Effect s (opBitReg n r s) ⟨[], false, false, bitRow⟩ [] 0
  | bitInd (n : Nat) : Effect s (opBitInd n s) ⟨[], false, false, bitRow⟩ [] 0
  | jump (target : Word) : Effect s (jumpTo target s) ⟨[], false, true, keepRow⟩ [] 0
  | call (target : Word) : Effect s (opCall target s) ⟨[], true, true, keepRow⟩ [s.sp - 1, s.sp - 2] 0
  | ret : Effect s (returnFromCall s) ⟨[], true, true, keepRow⟩ [] 0
  /-- A taken conditional, with its surcharge (R393). -/
  | charged {facts : Facts} {stored : List Word} {t : State} (n : Nat) (effect : Effect s t facts stored 0) :
      Effect s (tick n t) facts stored n

/-- Not one of the six instructions that change an enable or the mode, or stand for Table B. -/
def isPlain (i : Instr) : Bool :=
  match i with
  | .di | .ei | .reti | .halt | .stop _ | .prefixCb => false
  | _ => true

/-- What `exec` can have done when it completes. -/
inductive Executed (s : State) : Instr → State → Prop
  | di : Executed s .di { s with ime := false, imePending := false }
  | ei : Executed s .ei { s with imePending := true }
  | reti : Executed s .reti (returnFromInterrupt s)
  | halt : Executed s .halt { s with mode := .halted }
  | stop (pad : Byte) : Executed s (.stop pad) { s with mode := .stopped }
  | prefixCb : Executed s .prefixCb (tick (tableBCycles (s.readByte s.pc)) (opTableB (s.readByte s.pc) (imm8 s).2))
  | plain {i : Instr} {t : State} (hi : isPlain i = true)
      (effect : Effect s t (facts i) (storedAddrs i s) (surcharge i s)) : Executed s i t

variable {s t : State} {i : Instr} {fs : Facts} {stored : List Word} {n : Nat}

theorem opJpCond_effect (cc : Cond) (n : Word) :
    Effect s (opJpCond cc n s) ⟨[], false, true, keepRow⟩ [] (if s.cond cc then 1 else 0) := by
  obtain ⟨hc, e⟩ | ⟨hc, e⟩ := opJpCond_cases s cc n <;> simp only [hc, e, if_true]
  · exact .charged 1 (.jump n)
  · exact .nothing false true

theorem opJrCond_effect (cc : Cond) (e : Byte) :
    Effect s (opJrCond cc e s) ⟨[], false, true, keepRow⟩ [] (if s.cond cc then 1 else 0) := by
  obtain ⟨hc, e⟩ | ⟨hc, e⟩ := opJrCond_cases s cc e <;> simp only [hc, e, if_true]
  · exact .charged 1 (.jump _)
  · exact .nothing false true

theorem opCallCond_effect (cc : Cond) (n : Word) :
    Effect s (opCallCond cc n s) ⟨[], true, true, keepRow⟩ (if s.cond cc then [s.sp - 1, s.sp - 2] else [])
      (if s.cond cc then 3 else 0) := by
  obtain ⟨hc, e⟩ | ⟨hc, e⟩ := opCallCond_cases s cc n <;> simp only [hc, e, if_true]
  · exact .charged 3 (.call n)
  · exact .nothing true true

theorem opRetCond_effect (cc : Cond) :
    Effect s (opRetCond cc s) ⟨[], true, true, keepRow⟩ [] (if s.cond cc then 3 else 0) := by
  obtain ⟨hc, e⟩ | ⟨hc, e⟩ := opRetCond_cases s cc <;> simp only [hc, e, if_true]
  · exact .charged 3 .ret
  · exact .nothing true true

/-- Every operation of Table B has an effect that leaves `sp` and `pc` alone. -/
theorem opTableB_effect (op2 : Byte) :
    ∃ regs flags stored, Effect s (opTableB op2 s) ⟨regs, false, false, flags⟩ stored 0 := by
  unfold opTableB
  dsimp only
  split
  all_goals cases slotOf (op2.toNat % 8)
  case h_1.reg r => exact ⟨_, _, _, .shiftReg _ r⟩
  case h_1.indHl => exact ⟨_, _, _, .shiftInd _⟩
  case h_2.reg r => exact ⟨_, _, _, .bitReg _ r⟩
  case h_2.indHl => exact ⟨_, _, _, .bitInd _⟩
  case h_3.reg r | h_4.reg r => exact ⟨_, _, _, .setReg8 r _⟩
  case h_3.indHl | h_4.indHl => exact ⟨_, _, _, .modify _⟩

/-- Each arm of `exec` but six is one of the effects, with the facts, stores and surcharge of the tables. -/
theorem exec_effect (hi : isPlain i = true) (h : exec i s = .next t) :
    Effect s t (facts i) (storedAddrs i s) (surcharge i s) := by
  cases i
  case di | ei | reti | halt | stop _ | prefixCb => cases hi
  case nop => cases h; exact .nothing false false
  case ldBcN16 _ | ldDeN16 _ | ldHlN16 _ | ldSpN16 _ => cases h; exact .setReg16 _ _
  case incBc | incDe | incHl | incSp | decBc | decDe | decHl | decSp => cases h; exact .setReg16 _ _
  case ldBB | ldBC | ldBD | ldBE | ldBH | ldBL | ldBA | ldCB | ldCC | ldCD | ldCE | ldCH | ldCL | ldCA |
      ldDB | ldDC | ldDD | ldDE | ldDH | ldDL | ldDA | ldEB | ldEC | ldED | ldEE | ldEH | ldEL | ldEA | ldHB |
      ldHC | ldHD | ldHE | ldHH | ldHL | ldHA | ldLB | ldLC | ldLD | ldLE | ldLH | ldLL | ldLA | ldAB | ldAC |
      ldAD | ldAE | ldAH | ldAL | ldAA => cases h; exact .setReg8 _ _
  case ldBN8 _ | ldCN8 _ | ldDN8 _ | ldEN8 _ | ldHN8 _ | ldLN8 _ | ldAN8 _ => cases h; exact .setReg8 _ _
  case ldBIndHl | ldCIndHl | ldDIndHl | ldEIndHl | ldHIndHl | ldLIndHl | ldAIndHl => cases h; exact .loadReg8 _
  case ldAIndBc | ldAIndDe | ldhAIndC => cases h; exact .loadA _
  case ldhAIndN8 _ | ldAIndN16 _ => cases h; exact .loadA _
  case ldIndHlB | ldIndHlC | ldIndHlD | ldIndHlE | ldIndHlH | ldIndHlL | ldIndHlA | ldIndBcA | ldIndDeA |
      ldhIndCA => cases h; exact .store _ _
  case ldIndHlN8 _ | ldhIndN8A _ | ldIndN16A _ => cases h; exact .store _ _
  case ldIndHliA | ldIndHldA => cases h; exact .storeStep _ _
  case ldAIndHli | ldAIndHld => cases h; exact .loadStep _
  case ldIndN16Sp _ => cases h; exact .store16 _ _
  case ldSpHl => cases h; exact .setReg16 .sp _
  case pushBc | pushDe | pushHl | pushAf => cases h; exact .push _
  case popBc | popDe | popHl | popAf => cases h; exact .pop _
  case addAB | addAC | addAD | addAE | addAH | addAL | addAA | adcAB | adcAC | adcAD | adcAE | adcAH | adcAL |
      adcAA | subAB | subAC | subAD | subAE | subAH | subAL | subAA | sbcAB | sbcAC | sbcAD | sbcAE | sbcAH |
      sbcAL | sbcAA | andAB | andAC | andAD | andAE | andAH | andAL | andAA | xorAB | xorAC | xorAD | xorAE |
      xorAH | xorAL | xorAA | orAB | orAC | orAD | orAE | orAH | orAL | orAA | cpAB | cpAC | cpAD | cpAE | cpAH |
      cpAL | cpAA => cases h; exact .alu _ _
  case addAN8 _ | adcAN8 _ | subAN8 _ | sbcAN8 _ | andAN8 _ | xorAN8 _ | orAN8 _ | cpAN8 _ => cases h; exact .alu _ _
  case addAIndHl | adcAIndHl | subAIndHl | sbcAIndHl | andAIndHl | xorAIndHl | orAIndHl | cpAIndHl =>
    cases h; exact .aluInd _
  case incB | incC | incD | incE | incH | incL | incA => cases h; exact .incReg _
  case decB | decC | decD | decE | decH | decL | decA => cases h; exact .decReg _
  case incIndHl => cases h; exact .incInd
  case decIndHl => cases h; exact .decInd
  case daa => cases h; exact .daa _ _ _
  case cpl => cases h; exact .cpl _
  case scf => cases h; exact .scf
  case ccf => cases h; exact .ccf
  case addHlBc | addHlDe | addHlHl | addHlSp => cases h; exact .addHl _
  case addSpE8 _ => cases h; exact .addSp _ _
  case ldHlSpE8 _ => cases h; exact .loadHlSp _ _
  case rlca | rrca | rla | rra => cases h; exact .rotateA _
  case rlcB | rlcC | rlcD | rlcE | rlcH | rlcL | rlcA | rrcB | rrcC | rrcD | rrcE | rrcH | rrcL | rrcA | rlB |
      rlC | rlD | rlE | rlH | rlL | rlA | rrB | rrC | rrD | rrE | rrH | rrL | rrA | slaB | slaC | slaD | slaE |
      slaH | slaL | slaA | sraB | sraC | sraD | sraE | sraH | sraL | sraA | swapB | swapC | swapD | swapE |
      swapH | swapL | swapA | srlB | srlC | srlD | srlE | srlH | srlL | srlA => cases h; exact .shiftReg _ _
  case rlcIndHl | rrcIndHl | rlIndHl | rrIndHl | slaIndHl | sraIndHl | swapIndHl | srlIndHl =>
    cases h; exact .shiftInd _
  case bit0B | bit0C | bit0D | bit0E | bit0H | bit0L | bit0A | bit1B | bit1C | bit1D | bit1E | bit1H | bit1L |
      bit1A | bit2B | bit2C | bit2D | bit2E | bit2H | bit2L | bit2A | bit3B | bit3C | bit3D | bit3E | bit3H |
      bit3L | bit3A | bit4B | bit4C | bit4D | bit4E | bit4H | bit4L | bit4A | bit5B | bit5C | bit5D | bit5E |
      bit5H | bit5L | bit5A | bit6B | bit6C | bit6D | bit6E | bit6H | bit6L | bit6A | bit7B | bit7C | bit7D |
      bit7E | bit7H | bit7L | bit7A => cases h; exact .bitReg _ _
  case bit0IndHl | bit1IndHl | bit2IndHl | bit3IndHl | bit4IndHl | bit5IndHl | bit6IndHl | bit7IndHl =>
    cases h; exact .bitInd _
  case res0B | res0C | res0D | res0E | res0H | res0L | res0A | res1B | res1C | res1D | res1E | res1H | res1L |
      res1A | res2B | res2C | res2D | res2E | res2H | res2L | res2A | res3B | res3C | res3D | res3E | res3H |
      res3L | res3A | res4B | res4C | res4D | res4E | res4H | res4L | res4A | res5B | res5C | res5D | res5E |
      res5H | res5L | res5A | res6B | res6C | res6D | res6E | res6H | res6L | res6A | res7B | res7C | res7D |
      res7E | res7H | res7L | res7A => cases h; exact .setReg8 _ _
  case set0B | set0C | set0D | set0E | set0H | set0L | set0A | set1B | set1C | set1D | set1E | set1H | set1L |
      set1A | set2B | set2C | set2D | set2E | set2H | set2L | set2A | set3B | set3C | set3D | set3E | set3H |
      set3L | set3A | set4B | set4C | set4D | set4E | set4H | set4L | set4A | set5B | set5C | set5D | set5E |
      set5H | set5L | set5A | set6B | set6C | set6D | set6E | set6H | set6L | set6A | set7B | set7C | set7D |
      set7E | set7H | set7L | set7A => cases h; exact .setReg8 _ _
  case res0IndHl | res1IndHl | res2IndHl | res3IndHl | res4IndHl | res5IndHl | res6IndHl | res7IndHl =>
    cases h; exact .modify _
  case set0IndHl | set1IndHl | set2IndHl | set3IndHl | set4IndHl | set5IndHl | set6IndHl | set7IndHl =>
    cases h; exact .modify _
  case jpHl => cases h; exact .jump _
  case jpN16 _ | jrE8 _ => cases h; exact .jump _
  case jpNzN16 _ | jpZN16 _ | jpNcN16 _ | jpCN16 _ => cases h; exact opJpCond_effect _ _
  case jrNzE8 _ | jrZE8 _ | jrNcE8 _ | jrCE8 _ => cases h; exact opJrCond_effect _ _
  case callN16 _ => cases h; exact .call _
  case rst00 | rst08 | rst10 | rst18 | rst20 | rst28 | rst30 | rst38 => cases h; exact .call _
  case callNzN16 _ | callZN16 _ | callNcN16 _ | callCN16 _ => cases h; exact opCallCond_effect _ _
  case ret => cases h; exact .ret
  case retNz | retZ | retNc | retC => cases h; exact opRetCond_effect _
  -- What is left are the illegal bytes, which do not complete.
  all_goals cases h

theorem exec_executed (h : exec i s = .next t) : Executed s i t := by
  cases hi : isPlain i
  · cases i
    case di => cases h; exact .di
    case ei => cases h; exact .ei
    case reti => cases h; exact .reti
    case halt => cases h; exact .halt
    case stop pad => cases h; exact .stop pad
    case prefixCb => cases h; exact .prefixCb
    all_goals cases hi
  · exact .plain hi (exec_effect hi h)

end Sys2Proof.Machine
end

section
/-! SUPPORT. What every effect keeps: the registers and flags its facts do not name, the canonical form of memory, and the
control state. -/

namespace Sys2Proof.Forms

/-- A flag effect of R31 as a relation between a flag before and after. -/
def FlagEffect.Holds (effect : FlagEffect) (before after : Bool) : Prop :=
  (effect = .cleared → after = false) ∧ (effect = .set → after = true) ∧ (effect = .kept → after = before) ∧
  (effect = .complemented → after = !before)

variable (before after : Bool)

@[simp] theorem FlagEffect.holds_cleared : FlagEffect.cleared.Holds before after ↔ after = false := by
  simp [FlagEffect.Holds]

@[simp] theorem FlagEffect.holds_set : FlagEffect.set.Holds before after ↔ after = true := by
  simp [FlagEffect.Holds]

@[simp] theorem FlagEffect.holds_kept : FlagEffect.kept.Holds before after ↔ after = before := by
  simp [FlagEffect.Holds]

@[simp] theorem FlagEffect.holds_complemented :
    FlagEffect.complemented.Holds before after ↔ after = !before := by
  simp [FlagEffect.Holds]

@[simp] theorem FlagEffect.holds_computed : FlagEffect.computed.Holds before after := by
  simp [FlagEffect.Holds]

/-- A row of R31 as a relation between the state before and after. -/
def FlagRow.Holds (row : FlagRow) (s t : Machine.State) : Prop :=
  row.z.Holds s.flagZ t.flagZ ∧ row.n.Holds s.flagN t.flagN ∧ row.h.Holds s.flagH t.flagH ∧
  row.c.Holds s.flagC t.flagC

end Sys2Proof.Forms

namespace Sys2Proof.Machine

open Forms

variable {s t : State} {i : Instr} {fs : Facts} {stored : List Word} {n : Nat}

/-- `s` with those fields of `t` that an instruction with the facts `fs` and `n` m-cycles of surcharge may change. -/
def State.within (s : State) (fs : Facts) (n : Nat) (t : State) : State :=
  { s with
    a := if .a ∈ fs.regs then t.a else s.a
    b := if .b ∈ fs.regs then t.b else s.b
    c := if .c ∈ fs.regs then t.c else s.c
    d := if .d ∈ fs.regs then t.d else s.d
    e := if .e ∈ fs.regs then t.e else s.e
    h := if .h ∈ fs.regs then t.h else s.h
    l := if .l ∈ fs.regs then t.l else s.l
    sp := if fs.sp then t.sp else s.sp
    pc := if fs.control then t.pc else s.pc
    f := t.f
    mem := t.mem
    bus := t.bus
    mCycles := s.mCycles + n
    tStates := s.tStates + 4 * n }

/-- The frame of every effect: only what its facts name has changed, and `F`, memory and the transcript. -/
theorem Effect.frame (h : Effect s t fs stored n) : t = s.within fs n t := by
  induction h with
  | nothing sp control => cases sp <;> cases control <;> rfl
  | setReg8 r | loadReg8 r | incReg r | decReg r | shiftReg _ r => cases r <;> rfl
  | setReg16 r | pop r => cases r <;> rfl
  | alu op | aluInd op => cases op <;> rfl
  | charged n _ ih => exact congrArg (tick n) ih
  | _ => rfl

/-- What an instruction with a row of R31 leaves in `F`: what was there, whatever a masked byte brings (`POP AF`), or the
four flags written as the row says. -/
inductive FlagChange (s : State) (f : Byte) : FlagRow → Prop
  | kept (h : f = s.f) : FlagChange s f keepRow
  | masked (h : f &&& 0x0F = 0) : FlagChange s f allRow
  | written {row : FlagRow} (z n h c : Bool) (hf : f = packFlags z n h c)
      (hrow : row.z.Holds s.flagZ z ∧ row.n.Holds s.flagN n ∧ row.h.Holds s.flagH h ∧ row.c.Holds s.flagC c) :
      FlagChange s f row

theorem allRow_holds (s t : State) : allRow.Holds s t := by simp [FlagRow.Holds, allRow]

theorem FlagChange.holds {row : FlagRow} (h : FlagChange s t.f row) : row.Holds s t := by
  cases h with
  | kept hf => simp [FlagRow.Holds, keepRow, State.flagZ, State.flagN, State.flagH, State.flagC, hf]
  | masked => exact allRow_holds ..
  | written z n h c hf hrow =>
    simpa [FlagRow.Holds, State.flagZ, State.flagN, State.flagH, State.flagC, hf] using hrow

theorem FlagChange.lowNibble {f : Byte} {row : FlagRow} (h : FlagChange s f row) (hs : s.f &&& 0x0F = 0) :
    f &&& 0x0F = 0 := by
  cases h with
  | kept hf => rw [hf, hs]
  | masked hf => exact hf
  | written z n h c hf => simp [hf]

theorem setFlags_packed (u : State) (z n h c : Bool) : (u.setFlags z n h c).f = packFlags z n h c := by simp

theorem accumulate_flagChange (op : AluOp) (v : Byte) (u : State) :
    FlagChange s (accumulate op v u).f (aluFacts op).flags := by
  cases op <;>
    exact .written _ _ _ _ (setFlags_packed ..) (by simp [aluFacts, addRow, subRow, andRow, orRow])

/-- The shifts and `SWAP` write what their rows say: `SWAP` clears `C`. -/
theorem shifted_row (op : ShiftOp) (v : Byte) (cin : Bool) :
    (shiftOpRow op).z.Holds s.flagZ ((shifted op v cin).1 == 0) ∧ (shiftOpRow op).n.Holds s.flagN false ∧
    (shiftOpRow op).h.Holds s.flagH false ∧ (shiftOpRow op).c.Holds s.flagC (shifted op v cin).2 := by
  cases op <;> simp [shiftOpRow, shiftRow, orRow, shifted]

theorem Effect.flagChange (h : Effect s t fs stored n) : FlagChange s t.f fs.flags := by
  induction h with
  | nothing | store | store16 | modify | storeStep | loadA | loadStep | push | jump | call | ret => exact .kept rfl
  | setReg8 r | loadReg8 r | setReg16 r => cases r <;> exact .kept rfl
  | pop r =>
    cases r
    case af => exact .masked (writeF_lowNibble ..)
    all_goals exact .kept rfl
  | alu | aluInd => exact accumulate_flagChange ..
  | incReg => rw [opIncReg_eq]; exact .written _ _ _ _ (setReg8_f ..) (by simp [incRow])
  | decReg => rw [opDecReg_eq]; exact .written _ _ _ _ (setReg8_f ..) (by simp [decRow])
  | incInd => rw [opIncInd_eq]; exact .written _ _ _ _ rfl (by simp [incRow])
  | decInd => rw [opDecInd_eq]; exact .written _ _ _ _ rfl (by simp [decRow])
  | daa => exact .written _ _ _ _ (setFlags_packed ..) (by simp [daaRow])
  | cpl => exact .written _ _ _ _ (setFlags_packed ..) (by simp [cplRow])
  | scf => exact .written _ _ _ _ (setFlags_packed ..) (by simp [scfRow])
  | ccf => exact .written _ _ _ _ (setFlags_packed ..) (by simp [ccfRow])
  | addHl => rw [opAddHl, addHlFlags_eq]; exact .written _ _ _ _ rfl (by simp [addHlRow])
  | addSp | loadHlSp => rw [spOffsetFlags_eq]; exact .written _ _ _ _ rfl (by simp [spOffsetRow])
  | rotateA => exact .written _ _ _ _ (setFlags_packed ..) (by simp [shortRotateRow])
  | shiftReg => rw [opShiftReg_eq]; exact .written _ _ _ _ (setReg8_f ..) (shifted_row ..)
  | shiftInd => rw [opShiftInd_eq]; exact .written _ _ _ _ rfl (shifted_row ..)
  | bitReg => rw [opBitReg_eq]; exact .written _ _ _ _ rfl (by simp [bitRow])
  | bitInd => rw [opBitInd_eq]; exact .written _ _ _ _ rfl (by simp [bitRow])
  | charged _ _ ih => exact ih

theorem Effect.memory_wf (h : Effect s t fs stored n) (hm : Memory.wf s.mem) : Memory.wf t.mem := by
  induction h with
  | store | modify | storeStep | incInd | decInd | shiftInd => exact Memory.wf_write hm _ _
  | store16 => exact memWrite16_wf s hm _ _
  | push | call => exact push16_wf s hm _
  | setReg8 r | loadReg8 r | incReg r | decReg r | shiftReg _ r => cases r <;> exact hm
  | setReg16 r | pop r => cases r <;> exact hm
  | alu => rwa [accumulate_frame]
  | aluInd => rwa [opAluInd_eq, accumulate_frame]
  | charged _ _ ih => exact ih
  | _ => exact hm

/-! ## What the facts do not name -/

theorem Effect.reg8 (h : Effect s t fs stored n) {r : Reg8} (hr : r ∉ fs.regs) : t.reg8 r = s.reg8 r := by
  rw [h.frame]
  cases r <;> exact if_neg hr

theorem Effect.sp (h : Effect s t fs stored n) (hsp : fs.sp = false) : t.sp = s.sp := by
  rw [h.frame]
  simp [State.within, hsp]

theorem Effect.pc (h : Effect s t fs stored n) (hc : fs.control = false) : t.pc = s.pc := by
  rw [h.frame]
  simp [State.within, hc]

/-- The latch, the inputs, the outcome, the enables and the mode are outside every effect. -/
theorem Effect.control (h : Effect s t fs stored n) :
    s.SameEnvironment t ∧ t.ime = s.ime ∧ t.imePending = s.imePending ∧ t.mode = s.mode := by
  rw [h.frame]
  exact ⟨⟨rfl, rfl, rfl, rfl⟩, rfl, rfl, rfl⟩

end Sys2Proof.Machine
end

section
/-! SUPPORT. The invariant through the parts of a step. -/

namespace Sys2Proof.Machine

open Forms

variable {s t : State} {i : Instr} {fs : Facts} {stored : List Word} {n : Nat}

/-- The clause on a pending enable says nothing under the default `EI_DELAY = true` (log entry 5). -/
theorem inv_intro (hf : s.f &&& 0x0F = 0) (hm : Memory.wf s.mem) (hc : s.tStates = 4 * s.mCycles) : s.Inv :=
  ⟨hf, hm, hc, fun h => absurd h (by decide)⟩

/-- The invariant reads `F`, memory and the counters only. -/
theorem inv_congr (h : s.Inv) (hf : t.f = s.f) (hm : t.mem = s.mem) (hc : t.mCycles = s.mCycles)
    (ht : t.tStates = s.tStates) : t.Inv :=
  inv_intro (hf ▸ h.lowNibble) (hm ▸ h.memory) (hc ▸ ht ▸ h.counters)

theorem tick_inv (h : s.Inv) (n : Nat) : (tick n s).Inv :=
  inv_intro h.lowNibble h.memory (by have := h.counters; simp only [tick_mCycles, tick_tStates]; omega)

theorem endStep_inv (h : s.Inv) (what : StepOutcome) : (endStep what s).Inv := inv_congr h rfl rfl rfl rfl

theorem promoteIme_inv (h : s.Inv) (p : Bool) : (promoteIme p s).Inv := by
  rw [promoteIme_frame]
  exact inv_congr h rfl rfl rfl rfl

theorem Effect.inv (h : Effect s t fs stored n) (hs : s.Inv) : t.Inv := by
  refine inv_intro (h.flagChange.lowNibble hs.lowNibble) (h.memory_wf hs.memory) ?_
  rw [h.frame]
  exact (tick_inv hs n).counters

theorem exec_inv (h : exec i s = .next t) (hs : s.Inv) : t.Inv := by
  cases exec_executed h with
  | di | ei | reti | halt | stop => exact inv_congr hs rfl rfl rfl rfl
  | prefixCb =>
    obtain ⟨_, _, _, he⟩ := opTableB_effect (s := (imm8 s).2) (s.readByte s.pc)
    exact tick_inv (he.inv (inv_congr hs rfl rfl rfl rfl)) _
  | plain _ he => exact he.inv hs

theorem beginStep_inv (hs : s.Inv) : (beginStep s).Inv := by
  refine inv_intro ?_ (beginStep_wf s hs.memory) ?_ <;> rw [beginStep_frame]
  · exact hs.lowNibble
  · exact hs.counters

/-- Every fetch reads some bytes at `pc` and does nothing else. -/
theorem fetch_state (s : State) : ∃ i n, fetch s = (i, s.fetched n) := by
  cases h : Decoder.tableA (s.readByte s.pc) with
  | plain i => exact ⟨_, _, fetch_plain s i h⟩
  | byteOperand f => exact ⟨_, _, fetch_byteOperand s f h⟩
  | wordOperand f => exact ⟨_, _, fetch_wordOperand s f h⟩
  | prefixByte => exact ⟨_, _, fetch_prefixByte s h⟩

theorem fetched_inv (hs : s.Inv) (n : Nat) : (s.fetched n).Inv := by
  rw [fetched_frame]
  exact inv_congr hs rfl rfl rfl rfl

theorem dispatchInterrupt_inv (hs : s.Inv) (k : Nat) (ifl : Byte) : (dispatchInterrupt k ifl s).Inv := by
  refine inv_intro ?_ (dispatchInterrupt_wf s hs.memory k ifl) ?_ <;> rw [dispatchInterrupt_eq]
  · exact hs.lowNibble
  · exact (tick_inv hs 5).counters

theorem instructionStep_inv (h : instructionStep s = .next t) (hs : s.Inv) : t.Inv := by
  obtain ⟨i, n, hf⟩ := fetch_state s
  simp only [instructionStep, hf] at h
  split at h
  · next u hu =>
    cases h
    exact endStep_inv (promoteIme_inv (tick_inv (exec_inv hu (fetched_inv hs n)) _) _) _
  · cases h
  · cases h

theorem interruptCheck_inv {ie ifl : Byte} (h : interruptCheck ie ifl s = .next t) (hs : s.Inv) : t.Inv := by
  unfold interruptCheck at h
  split at h
  · cases h
    exact endStep_inv (dispatchInterrupt_inv hs _ ifl) _
  · exact instructionStep_inv h hs

theorem sampledStep_inv (h : sampledStep s = .next t) (hs : s.Inv) : t.Inv := by
  have hs' : (ioReadIF (ioReadIE s).2).2.Inv := inv_congr hs rfl rfl rfl rfl
  unfold sampledStep at h
  dsimp only at h
  split at h
  · split at h
    · exact interruptCheck_inv h (inv_congr hs' rfl rfl rfl rfl)
    · cases h
      exact endStep_inv (tick_inv hs' 1) _
  · exact interruptCheck_inv h hs'

theorem coreStep_inv {w : Bool} (h : coreStep w s = .next t) (hs : s.Inv) : t.Inv := by
  unfold coreStep at h
  split at h
  · cases h
  · split at h
    · dsimp only at h
      split at h
      · exact sampledStep_inv h (inv_congr hs rfl rfl rfl rfl)
      · cases h
        refine endStep_inv (tick_inv ?_ 1) _
        exact inv_congr hs rfl rfl rfl rfl
    · exact sampledStep_inv h hs

end Sys2Proof.Machine
end

section
/-! SUPPORT. The bytes of a reset state, and words as pairs of bytes. -/

namespace Sys2Proof.Machine

/-- The byte placed last at an address of the reset image and the two registers after it. -/
theorem ofReset_readByte_last (r : Config.ResetRecord) {before after : List (Word × Byte)} {a : Word} {v : Byte}
    (hr : r.image ++ [(0xFFFF, r.ie), (0xFF0F, r.ifl)] = before ++ (a, v) :: after) (ha : ∀ w, (a, w) ∉ after) :
    (State.ofReset r).readByte a = v := by
  simp only [State.readByte, State.ofReset, hr]
  exact Memory.read_writeAll_last _ _ _ _ _ ha

/-- The two registers placed after the image are at their own addresses. -/
theorem not_mem_placedRegisters {a : Word} (hie : a ≠ ieAddr) (hif : a ≠ ifAddr) (ie ifl v : Byte) :
    (a, v) ∉ [((0xFFFF : Word), ie), (0xFF0F, ifl)] := by
  simp only [List.mem_cons, List.not_mem_nil, or_false, Prod.mk.injEq, not_or]
  exact ⟨fun e => hie e.1, fun e => hif e.1⟩

theorem ofReset_readByte_unplaced (r : Config.ResetRecord) {a : Word} (hr : ∀ v, (a, v) ∉ r.image)
    (hie : a ≠ ieAddr) (hif : a ≠ ifAddr) : (State.ofReset r).readByte a = Config.unlistedByte a := by
  have hall : ∀ v, (a, v) ∉ r.image ++ [(0xFFFF, r.ie), (0xFF0F, r.ifl)] := fun v hv =>
    (List.mem_append.mp hv).elim (hr v) (not_mem_placedRegisters hie hif _ _ v)
  exact (Memory.read_writeAll_other _ _ _ hall).trans (Memory.read_unlisted _ _ rfl)

theorem joinBytes_toNat (hi lo : Byte) : (joinBytes hi lo).toNat = 256 * hi.toNat + lo.toNat := by
  rw [joinBytes, BitVec.toNat_append, ← Nat.shiftLeft_add_eq_or_of_lt lo.isLt, Nat.shiftLeft_eq, Nat.mul_comm]

theorem joinBytes_and (hi lo hi' lo' : Byte) :
    joinBytes hi lo &&& joinBytes hi' lo' = joinBytes (hi &&& hi') (lo &&& lo') := BitVec.and_append

/-- `AF` after a write of `w` to it: the low nibble is dropped once, however often `F` is masked (R23). -/
theorem setStackReg_stackReg_af (s : State) (w : Word) : (s.setStackReg .af w).stackReg .af = w &&& 0xFFF0 := by
  calc joinBytes (high w) (low w &&& 0xF0 &&& 0xF0)
      = joinBytes (high w &&& 0xFF) (low w &&& 0xF0) := by
        rw [BitVec.and_assoc, BitVec.and_self, show high w &&& 0xFF = high w from BitVec.and_allOnes]
    _ = joinBytes (high w) (low w) &&& joinBytes 0xFF 0xF0 := (joinBytes_and ..).symm
    _ = w &&& 0xFFF0 := by rw [join_high_low]; rfl

theorem stackReg_af_lowNibble (s : State) : s.stackReg .af &&& 0x000F = 0 := by
  calc joinBytes s.a s.readF &&& joinBytes 0x00 0x0F
      = joinBytes (s.a &&& 0x00) (s.f &&& 0xF0 &&& 0x0F) := joinBytes_and ..
    _ = 0 := by simp [joinBytes]

end Sys2Proof.Machine
end

section
/-! SUPPORT. The statements of the family `10_state.md`. -/

namespace Sys2Proof.Machine

open Forms

/-- Settles O9: the step is taken apart into what the other agents write, the samples, the dispatch or the instruction,
and the charge, and each part keeps the invariant. -/
theorem stepKeepsInvariant : Obligations.StepKeepsInvariant := fun s _ hs h =>
  coreStep_inv ((step_eq s).symm.trans h) (beginStep_inv hs)

/-- Settles O8: the counters start at 0, and placing bytes makes canonical memory. -/
theorem resetMeetsInvariant : Obligations.ResetMeetsInvariant := inv_intro (by decide) reset_wf rfl

/-- Settles O24: every effect leaves in `F` what its row says. -/
theorem flagTable : Obligations.FlagTable := by
  intro i s t h
  show (facts i).flags.Holds s t
  cases exec_executed h with
  | di | ei | reti | halt | stop => exact FlagChange.holds (.kept rfl)
  | prefixCb => exact allRow_holds ..
  | plain _ he => exact he.flagChange.holds

/-- Settles O25: what changes is within the facts; 0xCB names every register. -/
theorem registerFrame : Obligations.RegisterFrame := by
  intro i s t h
  cases exec_executed h with
  | di | ei | halt | stop => exact ⟨fun r _ => by cases r <;> rfl, fun _ => rfl⟩
  | reti => exact ⟨fun r _ => by cases r <;> rfl, nofun⟩
  | prefixCb =>
    obtain ⟨_, _, _, he⟩ := opTableB_effect (s := (imm8 s).2) (s.readByte s.pc)
    exact ⟨fun r hr => absurd (by cases r <;> decide) hr, fun _ => he.sp rfl⟩
  | plain _ he => exact ⟨fun _ => he.reg8, he.sp⟩

/-- Settles O27: a plain instruction leaves the control state alone, and the six others are read off. -/
theorem controlFrame : Obligations.ControlFrame := by
  intro i s t h
  cases exec_executed h with
  | di | ei | halt | stop =>
    exact ⟨⟨rfl, rfl, rfl, rfl⟩, by simp, by simp, by simp, by simp, fun _ => rfl⟩
  | reti =>
    rw [returnFromInterrupt, returnFromCall_eq]
    exact ⟨⟨rfl, rfl, rfl, rfl⟩, by simp, by simp, by simp, by simp, nofun⟩
  | prefixCb =>
    obtain ⟨_, _, _, he⟩ := opTableB_effect (s := (imm8 s).2) (s.readByte s.pc)
    obtain ⟨henv, hime, hpend, hmode⟩ := he.control
    exact ⟨henv, by simpa using hime, by simpa using hpend, fun _ => by simpa using hmode, nofun,
      fun _ => by simpa using he.pc rfl⟩
  | plain hi he =>
    obtain ⟨henv, hime, hpend, hmode⟩ := he.control
    have hne : ∀ j, isPlain j = false → i ≠ j := fun j hj e => by simp [← e, hi] at hj
    refine ⟨henv, ?_, ?_, fun _ => ?_, fun pad e => absurd e (hne _ rfl), fun hc => ?_⟩
    · rw [if_neg (hne _ rfl), if_neg (hne _ rfl), hime]
    · rw [if_neg (hne _ rfl), if_neg (hne _ rfl), hpend]
    · rw [if_neg (hne _ rfl), hmode]
    · rw [if_neg (hne _ rfl), he.pc hc]

/-- Settles O7: `IE` and `IF` are placed after the image, so they win at their own addresses and nowhere else. -/
theorem resetRecordIsHonoured : Obligations.ResetRecordIsHonoured := by
  refine ⟨fun r => ?_, fun a => ofReset_readByte_unplaced _ (by simp [Config.powerOn])⟩
  have hie : (State.ofReset r).readByte ieAddr = r.ie :=
    ofReset_readByte_last r (before := r.image) (after := [(0xFF0F, r.ifl)]) rfl (by simp [ieAddr])
  have hif : (State.ofReset r).readByte ifAddr = r.ifl :=
    ofReset_readByte_last r (before := r.image ++ [(0xFFFF, r.ie)]) (after := []) (by simp [ifAddr]) (by simp)
  refine ⟨rfl, rfl, rfl, rfl, rfl, rfl, rfl, rfl, rfl, rfl, rfl, rfl, rfl, rfl, rfl, rfl, hie, hif, ?_,
    fun a => ofReset_readByte_unplaced r⟩
  intro before after a v hr ha hie hif
  refine ofReset_readByte_last r (before := before) (after := after ++ [(0xFFFF, r.ie), (0xFF0F, r.ifl)])
    (by simp [hr]) fun w hw => ?_
  exact (List.mem_append.mp hw).elim (ha w) (not_mem_placedRegisters hie hif _ _ w)

/-- Settles O10: a pair is the join of its two cells, and splitting a word and joining it again gives it back. -/
theorem pairsAreViews : Obligations.PairsAreViews := by
  intro s w v
  have readBack : ∀ r, (s.setReg16 r w).reg16 r = w := by
    intro r
    cases r
    case sp => rfl
    all_goals exact join_high_low w
  refine ⟨joinBytes_toNat .., joinBytes_toNat .., joinBytes_toNat .., rfl, rfl, readBack, rfl, rfl, rfl, rfl,
    joinBytes_toNat .., joinBytes_toNat .., joinBytes_toNat .., joinBytes_toNat .., ?_⟩
  exact ⟨rfl, rfl, rfl, rfl, rfl, rfl, rfl, rfl, rfl, rfl, rfl, rfl, rfl, rfl, rfl, rfl, rfl, rfl⟩

/-- Settles O11: every path to `F` masks it with 0xF0, and `AF` is masked through its low byte. -/
theorem flagsLowNibbleIsZero : Obligations.FlagsLowNibbleIsZero := fun s v w z n h c =>
  ⟨mask_lowNibble s.f, rfl, by simp [State.readF, BitVec.and_assoc], stackReg_af_lowNibble s,
    setStackReg_stackReg_af s w, rfl, setFlags_lowNibble s z n h c⟩

end Sys2Proof.Machine
end

section
/-! SUPPORT. Canonical memories as sets of bytes, and the bytes an effect leaves alone. -/

namespace Sys2Proof.Machine

open Forms

variable {s t : State} {fs : Facts} {stored : List Word} {n : Nat}

theorem Memory.mem_of_lookup {m : Memory} {a : Word} {v : Byte} (h : Memory.lookup m a = some v) :
    (a.toNat, v) ∈ m := by
  induction m with
  | nil => cases h
  | cons cell rest ih =>
    obtain ⟨k, w⟩ := cell
    by_cases hk : k = a.toNat
    · have hw : w = v := by simpa [Memory.lookup, hk] using h
      simp [hk, hw]
    · exact List.mem_cons_of_mem _ (ih (by simpa [Memory.lookup, hk] using h))

/-- The rising order gives an address at most one entry, so the first one found is the one listed. -/
theorem Memory.lookup_of_mem {m : Memory} (hm : m.Pairwise fun x y => x.1 < y.1) {a : Word} {v : Byte}
    (h : (a.toNat, v) ∈ m) : Memory.lookup m a = some v := by
  induction m with
  | nil => cases h
  | cons cell rest ih =>
    obtain ⟨hhead, htail⟩ := List.pairwise_cons.mp hm
    obtain rfl | h := List.mem_cons.mp h
    · simp [Memory.lookup]
    · have hk : cell.1 ≠ a.toNat := (hhead _ h).ne
      simpa [Memory.lookup, hk] using ih htail h

/-- Every cell of a canonical memory is what is listed for an address. -/
theorem Memory.subset_of_lookup {m m' : Memory} (hm : Memory.wf m)
    (h : ∀ a : Word, Memory.lookup m a = Memory.lookup m' a) : m ⊆ m' := by
  rintro ⟨k, v⟩ hc
  have hk : (BitVec.ofNat 16 k).toNat = k := Nat.mod_eq_of_lt (hm.2 _ hc)
  have hl : Memory.lookup m (BitVec.ofNat 16 k) = some v := Memory.lookup_of_mem hm.1 (hk.symm ▸ hc)
  exact hk ▸ Memory.mem_of_lookup (h _ ▸ hl)

theorem Memory.eq_of_lookup {m m' : Memory} (hm : Memory.wf m) (hm' : Memory.wf m')
    (h : ∀ a : Word, Memory.lookup m a = Memory.lookup m' a) : m = m' := by
  have : Std.Irrefl fun x y : Host.Cell => x.1 < y.1 := ⟨fun _ => Nat.lt_irrefl _⟩
  have : Std.Antisymm fun x y : Host.Cell => x.1 < y.1 := ⟨fun _ _ h h' => absurd h' h.asymm⟩
  exact List.Subset.antisymm_of_pairwise hm.1 hm'.1 (subset_of_lookup hm h) (subset_of_lookup hm' fun a => (h a).symm)

theorem Memory.read_listed {m : Memory} {a : Word} {v : Byte} (h : Memory.lookup m a = some v) :
    Memory.read m a = v := by
  simp [Memory.read, h]

theorem Memory.lookup_write (m : Memory) (a b : Word) (v : Byte) :
    Memory.lookup (Memory.write m a v) b = if b = a then some v else Memory.lookup m b := by
  split
  case isTrue h => rw [h, Memory.lookup_write_same]
  case isFalse h => exact Memory.lookup_write_other m a b v h

theorem beginStep_of_env_nil (h : s.env = []) : beginStep s = { s with bus := [], outcome := none } := by
  simp [beginStep, h]

theorem beginStep_mem {writes : List (Word × Byte)} {later : List (List (Word × Byte))} (h : s.env = writes :: later) :
    (beginStep s).mem = Memory.writeAll s.mem writes := by
  simp [beginStep, h]

theorem withWrite_readByte_other (s : State) {a b : Word} (v : Byte) (h : b ≠ a) :
    (s.withWrite a v).readByte b = s.readByte b :=
  Memory.read_write_other _ _ _ _ h

theorem Effect.readByte_other (h : Effect s t fs stored n) {a : Word} (ha : a ∉ stored) :
    t.readByte a = s.readByte a := by
  induction h with
  | store | modify | storeStep | incInd | decInd | shiftInd =>
    exact Memory.read_write_other _ _ _ _ (List.ne_of_not_mem_cons ha)
  | store16 addr =>
    obtain ⟨hlo, hhi⟩ : a ≠ addr ∧ a ≠ addr + 1 := by simpa using ha
    exact memWrite16_readByte_other _ _ _ _ hlo hhi
  | push | call =>
    obtain ⟨hhi, hlo⟩ : a ≠ s.sp - 1 ∧ a ≠ s.sp - 2 := by simpa using ha
    exact push16_readByte_other _ _ _ hhi hlo
  | setReg8 r | loadReg8 r | incReg r | decReg r | shiftReg _ r => cases r <;> rfl
  | setReg16 r | pop r => cases r <;> rfl
  | alu => rw [accumulate_frame]; rfl
  | aluInd => rw [opAluInd_eq, accumulate_frame]; rfl
  | charged _ _ ih => exact ih ha
  | _ => rfl

/-- The operations of Table B store at `HL` or nowhere: `opTableB_effect` leaves the addresses open, so each effect is
named here. -/
theorem opTableB_readByte_other (op2 : Byte) {a : Word} (ha : a ≠ s.hl) :
    (opTableB op2 s).readByte a = s.readByte a := by
  have ha' : a ∉ [s.hl] := by simpa using ha
  unfold opTableB
  dsimp only
  split
  all_goals cases slotOf (op2.toNat % 8)
  case h_1.reg r => exact (Effect.shiftReg _ r).readByte_other (by simp)
  case h_1.indHl => exact (Effect.shiftInd _).readByte_other ha'
  case h_2.reg | h_2.indHl => rfl
  case h_3.reg r | h_4.reg r => exact (Effect.setReg8 r _).readByte_other (by simp)
  case h_3.indHl | h_4.indHl => exact (Effect.modify _).readByte_other ha'

end Sys2Proof.Machine
end

section
/-! SUPPORT. The statements of the family `20_memory.md`. -/

namespace Sys2Proof.Machine

/-- Settles O13: a write is the one entry of its address, and in canonical form the entries settle the list. -/
theorem memoryIsBytesByAddress : Obligations.MemoryIsBytesByAddress :=
  ⟨fun s a _ v => ⟨Memory.read_write_same .., withWrite_readByte_other s v,
    Memory.read_listed, Memory.read_unlisted s.mem a, Memory.lookup_write ..⟩,
    fun _ _ => Memory.eq_of_lookup⟩

/-- Settles O15: the frame of `beginStep`, and what the script's writes make of memory. -/
theorem otherAgentsChangeOnlyMemory : Obligations.OtherAgentsChangeOnlyMemory := by
  intro s
  refine ⟨beginStep_of_env_nil, fun writes later h => ⟨?_, fun a ha => ?_, ?_⟩⟩
  · simpa [h] using beginStep_frame s
  · rw [State.readByte, beginStep_mem h]
    exact Memory.read_writeAll_other _ _ _ ha
  · rintro first after a v rfl ha
    rw [State.readByte, beginStep_mem h]
    exact Memory.read_writeAll_last _ _ _ _ _ ha

/-- Settles O26: what changes is at the addresses the effect stores to; 0xCB stands for Table B, which stores at `HL`. -/
theorem memoryFrame : Obligations.MemoryFrame := by
  intro i s t h a ha
  cases exec_executed h with
  | di | ei | reti | halt | stop => rfl
  | prefixCb => exact opTableB_readByte_other (s := (imm8 s).2) _ (List.ne_of_not_mem_cons ha)
  | plain _ he => exact he.readByte_other ha

end Sys2Proof.Machine
end

section
/-! SUPPORT. What the decoder reads for each shape of entry, the encoding it reads back, and the eleven illegal rows. -/

namespace Sys2Proof.Laws.RoundTrip

/-- The lemmas of this family together, one for each constructor in the order of `Instr`. -/
theorem statement (i : Instr) : Statement i :=
  i.casesOn
    ldBcN16 ldBN8 ldIndN16Sp ldCN8 stop ldDeN16 ldDN8 jrE8 ldEN8 jrNzE8 ldHlN16 ldHN8 jrZE8 ldLN8 jrNcE8 ldSpN16
    ldIndHlN8 jrCE8 ldAN8 jpNzN16 jpN16 callNzN16 addAN8 jpZN16 callZN16 callN16 adcAN8 jpNcN16 callNcN16 subAN8
    jpCN16 callCN16 sbcAN8 ldhIndN8A andAN8 addSpE8 ldIndN16A xorAN8 ldhAIndN8 orAN8 ldHlSpE8 ldAIndN16 cpAN8 nop
    ldIndBcA incBc incB decB rlca addHlBc ldAIndBc decBc incC decC rrca ldIndDeA incDe incD decD rla addHlDe
    ldAIndDe decDe incE decE rra ldIndHliA incHl incH decH daa addHlHl ldAIndHli decHl incL decL cpl ldIndHldA
    incSp incIndHl decIndHl scf addHlSp ldAIndHld decSp incA decA ccf ldBB ldBC ldBD ldBE ldBH ldBL ldBIndHl ldBA
    ldCB ldCC ldCD ldCE ldCH ldCL ldCIndHl ldCA ldDB ldDC ldDD ldDE ldDH ldDL ldDIndHl ldDA ldEB ldEC ldED ldEE
    ldEH ldEL ldEIndHl ldEA ldHB ldHC ldHD ldHE ldHH ldHL ldHIndHl ldHA ldLB ldLC ldLD ldLE ldLH ldLL ldLIndHl
    ldLA ldIndHlB ldIndHlC ldIndHlD ldIndHlE ldIndHlH ldIndHlL halt ldIndHlA ldAB ldAC ldAD ldAE ldAH ldAL
    ldAIndHl ldAA addAB addAC addAD addAE addAH addAL addAIndHl addAA adcAB adcAC adcAD adcAE adcAH adcAL
    adcAIndHl adcAA subAB subAC subAD subAE subAH subAL subAIndHl subAA sbcAB sbcAC sbcAD sbcAE sbcAH sbcAL
    sbcAIndHl sbcAA andAB andAC andAD andAE andAH andAL andAIndHl andAA xorAB xorAC xorAD xorAE xorAH xorAL
    xorAIndHl xorAA orAB orAC orAD orAE orAH orAL orAIndHl orAA cpAB cpAC cpAD cpAE cpAH cpAL cpAIndHl cpAA retNz
    popBc pushBc rst00 retZ ret prefixCb rst08 retNc popDe illegalD3 pushDe rst10 retC reti illegalDB illegalDD
    rst18 popHl ldhIndCA illegalE3 illegalE4 pushHl rst20 jpHl illegalEB illegalEC illegalED rst28 popAf ldhAIndC
    di illegalF4 pushAf rst30 ldSpHl ei illegalFC illegalFD rst38 rlcB rlcC rlcD rlcE rlcH rlcL rlcIndHl rlcA rrcB
    rrcC rrcD rrcE rrcH rrcL rrcIndHl rrcA rlB rlC rlD rlE rlH rlL rlIndHl rlA rrB rrC rrD rrE rrH rrL rrIndHl rrA
    slaB slaC slaD slaE slaH slaL slaIndHl slaA sraB sraC sraD sraE sraH sraL sraIndHl sraA swapB swapC swapD
    swapE swapH swapL swapIndHl swapA srlB srlC srlD srlE srlH srlL srlIndHl srlA bit0B bit0C bit0D bit0E bit0H
    bit0L bit0IndHl bit0A bit1B bit1C bit1D bit1E bit1H bit1L bit1IndHl bit1A bit2B bit2C bit2D bit2E bit2H bit2L
    bit2IndHl bit2A bit3B bit3C bit3D bit3E bit3H bit3L bit3IndHl bit3A bit4B bit4C bit4D bit4E bit4H bit4L
    bit4IndHl bit4A bit5B bit5C bit5D bit5E bit5H bit5L bit5IndHl bit5A bit6B bit6C bit6D bit6E bit6H bit6L
    bit6IndHl bit6A bit7B bit7C bit7D bit7E bit7H bit7L bit7IndHl bit7A res0B res0C res0D res0E res0H res0L
    res0IndHl res0A res1B res1C res1D res1E res1H res1L res1IndHl res1A res2B res2C res2D res2E res2H res2L
    res2IndHl res2A res3B res3C res3D res3E res3H res3L res3IndHl res3A res4B res4C res4D res4E res4H res4L
    res4IndHl res4A res5B res5C res5D res5E res5H res5L res5IndHl res5A res6B res6C res6D res6E res6H res6L
    res6IndHl res6A res7B res7C res7D res7E res7H res7L res7IndHl res7A set0B set0C set0D set0E set0H set0L
    set0IndHl set0A set1B set1C set1D set1E set1H set1L set1IndHl set1A set2B set2C set2D set2E set2H set2L
    set2IndHl set2A set3B set3C set3D set3E set3H set3L set3IndHl set3A set4B set4C set4D set4E set4H set4L
    set4IndHl set4A set5B set5C set5D set5E set5H set5L set5IndHl set5A set6B set6C set6D set6E set6H set6L
    set6IndHl set6A set7B set7C set7D set7E set7H set7L set7IndHl set7A

end Sys2Proof.Laws.RoundTrip

namespace Sys2Proof

/-- The bytes after the first that an entry of Table A reads, the instruction it gives, and what it leaves (R91 to R94). -/
inductive Entry.Reads : Entry → List Byte → Instr → List Byte → Prop
  | plain (i : Instr) (rest : List Byte) : Reads (.plain i) rest i rest
  | byteOperand (f : Byte → Instr) (v : Byte) (rest : List Byte) : Reads (.byteOperand f) (v :: rest) (f v) rest
  | wordOperand (f : Word → Instr) (lo hi : Byte) (rest : List Byte) :
      Reads (.wordOperand f) (lo :: hi :: rest) (f (Machine.joinBytes hi lo)) rest
  | prefixByte (op2 : Byte) (rest : List Byte) : Reads .prefixByte (op2 :: rest) (Decoder.tableB op2) rest

/-- The length of every instruction an entry gives (R93). -/
def Entry.length (e : Entry) : Nat :=
  match e with
  | .plain _ => 1
  | .byteOperand _ | .prefixByte => 2
  | .wordOperand _ => 3

variable {op : Byte} {tail rest : List Byte} {i : Instr}

/-- What `decode` reads after a first byte is what the entry at that byte reads. -/
theorem decode_cons_iff : decode (op :: tail) = .ok (i, rest) ↔ (Decoder.tableA op).Reads tail i rest := by
  simp only [decode]
  generalize Decoder.tableA op = e
  constructor
  · intro h
    split at h
    · cases h; exact .plain _ _
    · split at h <;> cases h; exact .byteOperand _ _ _
    · split at h <;> cases h; exact .wordOperand _ _ _ _
    · split at h <;> cases h; exact .prefixByte _ _
  · intro h
    cases h <;> rfl

/-- A decoded instruction has the length of the entry at its first byte, and its encoding is the bytes read. -/
theorem encode_of_decode (h : decode (op :: tail) = .ok (i, rest)) :
    encode i ++ rest = op :: tail ∧ (encode i).length = (Decoder.tableA op).length := by
  have hr := decode_cons_iff.mp h
  have he := Machine.encode_tableA op
  cases ht : Decoder.tableA op <;> rw [ht] at hr he <;> cases hr
  case plain | byteOperand | wordOperand => simp [he, Entry.length]
  case prefixByte => simp [Machine.encode_tableB, he, Entry.length]

theorem encode_eq_of_isPrefixByte (h : i.isPrefixByte = true) : encode i = [0xCB] := by
  unfold Instr.isPrefixByte at h
  split at h
  · rfl
  · cases h

/-- An illegal row is its byte alone, and stands in Table A at that byte (R107). -/
theorem illegal_row (h : (i, op) ∈ Forms.illegal) :
    i.isIllegal = true ∧ encode i = [op] ∧ Decoder.tableA op = .plain i := by
  fin_cases h <;> exact ⟨rfl, rfl, rfl⟩

/-- Running an illegal row raises the fault of its byte (R295, R341). -/
theorem exec_illegal (h : (i, op) ∈ Forms.illegal) (s : Machine.State) :
    Machine.exec i s = Machine.raiseIllegalOpcode op s := by
  fin_cases h <;> rfl

theorem exists_illegal_row (h : i.isIllegal = true) : ∃ op, (i, op) ∈ Forms.illegal := by
  unfold Instr.isIllegal at h
  split at h
  case h_12 => cases h
  all_goals simp [Forms.illegal]

theorem decode_illegal (h : (i, op) ∈ Forms.illegal) (tail : List Byte) : decode (op :: tail) = .ok (i, tail) := by
  obtain ⟨-, -, ht⟩ := illegal_row h
  rw [decode_cons_iff, ht]
  exact .plain i tail

/-- An instruction decoded from a first byte is illegal exactly when the byte is. -/
theorem isIllegal_iff_of_decode (h : decode (op :: tail) = .ok (i, rest)) :
    i.isIllegal = true ↔ ∃ p, (p, op) ∈ Forms.illegal := by
  constructor
  · intro hi
    obtain ⟨op', hp⟩ := exists_illegal_row hi
    obtain ⟨-, he, -⟩ := illegal_row hp
    obtain ⟨hb, -⟩ := encode_of_decode h
    rw [he] at hb
    cases hb
    exact ⟨i, hp⟩
  · rintro ⟨p, hp⟩
    rw [decode_illegal hp] at h
    cases h
    exact (illegal_row hp).left

end Sys2Proof
end

section
/-! SUPPORT. The statements of the family `30_encoding.md`. -/

namespace Sys2Proof

/-- Settles O1, by the lemma of each constructor. -/
theorem decodeAfterEncode : Obligations.DecodeAfterEncode := Laws.RoundTrip.statement

/-- Settles O2: an encoding is never `0xCB` alone, since the entry at `0xCB` reads a second opcode. -/
theorem encodeAfterDecode : Obligations.EncodeAfterDecode := by
  rintro (_ | ⟨op, tail⟩) rest i h
  · cases h
  obtain ⟨hb, hlen⟩ := encode_of_decode h
  refine ⟨hb, Bool.eq_false_iff.mpr fun hp => ?_⟩
  rw [encode_eq_of_isPrefixByte hp] at hb hlen
  cases hb
  exact absurd hlen (by decide)

/-- Settles O4: both lengths are that of the entry at the first byte. -/
theorem firstByteSettlesLength : Obligations.FirstByteSettlesLength := by
  intro op tail tail' rest rest' i j hi hj
  obtain ⟨-, leni⟩ := encode_of_decode hi
  obtain ⟨-, lenj⟩ := encode_of_decode hj
  refine ⟨leni.trans lenj.symm, ?_, fun p hp => ?_⟩
  · rintro rfl
    exact leni
  · simp [Instr.wf, (isIllegal_iff_of_decode hi).mpr ⟨p, hp⟩]

/-- Settles O5: the illegal rows are entries of Table A alone, and each raises the fault of its byte. -/
theorem illegalBytesExactly : Obligations.IllegalBytesExactly :=
  ⟨fun _ _ _ _ => isIllegal_iff_of_decode, fun _ _ h => ⟨decode_illegal h, exec_illegal h⟩⟩

/-- Settles O3: each word runs through `decode` as it stands. -/
theorem anchorWordsDecode : Obligations.AnchorWordsDecode :=
  ⟨rfl, rfl, rfl, rfl, rfl, rfl, rfl, rfl, rfl, rfl, rfl⟩

end Sys2Proof
end

section
/-! SUPPORT. The step of the core by its mode, and the fetch of what the bytes at `pc` decode to. -/

namespace Sys2Proof.Machine

variable {s : State} {i : Instr} {rest : List Byte} {w : Bool}

/-! ## The step by the mode -/

theorem coreStep_of_mode_ne_stopped (hl : s.locked = false) (hm : s.mode ≠ .stopped) :
    coreStep w s = sampledStep s := by
  simp [coreStep, hl, hm]

theorem coreStep_of_stopped (hl : s.locked = false) (hm : s.mode = .stopped) :
    coreStep w s =
      if w then sampledStep { s with mode := .running, stopWakeReads := s.stopWakeReads + 1 }
      else .next (endStep .idle (tick 1 { s with stopWakeReads := s.stopWakeReads + 1 })) := by
  simp [coreStep, hl, hm]

/-- The value of `stop_wake` is looked at in `Stopped` mode only (R122). -/
theorem coreStep_congr_stopWake (w w' : Bool) (hm : s.mode ≠ .stopped) : coreStep w s = coreStep w' s := by
  simp [coreStep, hm]

theorem sampledStep_of_running (hm : s.mode = .running) :
    sampledStep s = interruptCheck (s.readByte ieAddr) (s.readByte ifAddr) s.sampled :=
  if_neg (show ¬ s.mode = .halted by simp [hm])

theorem sampledStep_of_halted_idle (hm : s.mode = .halted) (hp : s.pending = 0) :
    sampledStep s = .next (endStep .idle (tick 1 s.sampled)) :=
  (if_pos hm).trans (if_neg (show ¬ (s.pending != 0) = true by simp [hp]))

/-- A released core goes on as it would from `Running` mode, whatever `ime` is (R121). -/
theorem sampledStep_of_halted_pending (hm : s.mode = .halted) (hp : s.pending ≠ 0) :
    sampledStep s = sampledStep { s with mode := .running } :=
  calc sampledStep s
      = interruptCheck (s.readByte ieAddr) (s.readByte ifAddr) { s.sampled with mode := .running } :=
        (if_pos hm).trans (if_pos (show (s.pending != 0) = true by simpa using hp))
    _ = sampledStep { s with mode := .running } := (sampledStep_of_running (s := { s with mode := .running }) rfl).symm

theorem coreStep_of_readyToExecute (h : s.ReadyToExecute) : coreStep w s = instructionStep s.sampled := by
  obtain ⟨hl, hm, hi⟩ := h
  have hno : ¬ (s.ime && s.pending != 0) = true := by
    rcases hi with hi | hi <;> simp [hi]
  rw [coreStep_of_mode_ne_stopped hl (by simp [hm]), sampledStep_of_running hm]
  exact if_neg hno

/-! ## The instruction at `pc` -/

@[simp] theorem sampled_pc : s.sampled.pc = s.pc := rfl
@[simp] theorem sampled_ime : s.sampled.ime = s.ime := rfl
@[simp] theorem sampled_imePending : s.sampled.imePending = s.imePending := rfl
@[simp] theorem sampled_mode : s.sampled.mode = s.mode := rfl
@[simp] theorem sampled_locked : s.sampled.locked = s.locked := rfl
@[simp] theorem sampled_env : s.sampled.env = s.env := rfl

@[simp] theorem fetched_pc (n : Nat) : (s.fetched n).pc = s.pc + BitVec.ofNat 16 n := by rw [fetched_frame]
@[simp] theorem fetched_ime (n : Nat) : (s.fetched n).ime = s.ime := by rw [fetched_frame]
@[simp] theorem fetched_imePending (n : Nat) : (s.fetched n).imePending = s.imePending := by rw [fetched_frame]
@[simp] theorem fetched_mode (n : Nat) : (s.fetched n).mode = s.mode := by rw [fetched_frame]
@[simp] theorem fetched_locked (n : Nat) : (s.fetched n).locked = s.locked := by rw [fetched_frame]
@[simp] theorem fetched_env (n : Nat) : (s.fetched n).env = s.env := by rw [fetched_frame]

/-- The fetch gives what the three bytes at `pc` decode to and reads the bytes of its encoding, whatever of the three is
left over (R123). -/
theorem fetch_of_decode_at_pc
    (h : decode [s.readByte s.pc, s.readByte (s.pc + 1), s.readByte (s.pc + 2)] = .ok (i, rest)) :
    fetch s = (i, s.fetched (encode i).length) := by
  obtain ⟨-, hlen⟩ := encode_of_decode h
  have hr := decode_cons_iff.mp h
  rw [hlen]
  cases he : Decoder.tableA (s.readByte s.pc) <;> rw [he] at hr <;> cases hr
  case plain => exact fetch_plain s _ he
  case byteOperand => exact fetch_byteOperand s _ he
  case wordOperand => exact fetch_wordOperand s _ he
  case prefixByte => exact fetch_prefixByte s he

end Sys2Proof.Machine
end

section
/-! SUPPORT. The statements of the family `40_execution_cycle.md`. -/

namespace Sys2Proof.Machine

/-- Settles O12: masking the low nibble of `F` leaves bits 7 to 4 as they are. -/
theorem flagPlaces : Obligations.FlagPlaces := by
  intro s z n h c
  have hz : s.flagZ = s.readF.getLsbD 7 := by simp [State.flagZ, State.readF]
  have hn : s.flagN = s.readF.getLsbD 6 := by simp [State.flagN, State.readF]
  have hh : s.flagH = s.readF.getLsbD 5 := by simp [State.flagH, State.readF]
  have hc : s.flagC = s.readF.getLsbD 4 := by simp [State.flagC, State.readF]
  refine ⟨hz, hn, hh, hc, setFlags_flagZ .., setFlags_flagN .., setFlags_flagH .., setFlags_flagC ..,
    setFlags_eq .., ?_⟩
  rw [← hz, ← hc]
  simp [State.cond]

/-- Settles O16: both cases are read off `sampledStep` at a `Halted` core. -/
theorem haltedStep : Obligations.HaltedStep := by
  intro w s hl hm
  have hs : coreStep w s = sampledStep s := coreStep_of_mode_ne_stopped hl (by simp [hm])
  refine ⟨fun hp => ?_, fun hp => ?_⟩
  · rw [hs, sampledStep_of_halted_idle hm hp]
    rfl
  · rw [hs, sampledStep_of_halted_pending hm hp]
    exact (coreStep_of_mode_ne_stopped (s := { s with mode := .running }) hl Mode.noConfusion).symm

/-- Settles O17: in `Stopped` mode the branch is on the value; in every other mode no branch looks at it. -/
theorem stoppedStep : Obligations.StoppedStep := by
  refine ⟨fun s hl hm => ⟨coreStep_of_stopped hl hm, ?_⟩, step_eq, fun w w' _ => coreStep_congr_stopWake w w'⟩
  calc coreStep true s
      = sampledStep { s with mode := .running, stopWakeReads := s.stopWakeReads + 1 } := coreStep_of_stopped hl hm
    _ = _ := (coreStep_of_mode_ne_stopped
        (s := { s with mode := .running, stopWakeReads := s.stopWakeReads + 1 }) hl Mode.noConfusion).symm

/-- Settles O14: no interrupt is dispatched, and the fetch gives the decoded instruction. -/
theorem stepRunsDecodedInstruction : Obligations.StepRunsDecodedInstruction := by
  intro s u i rest hu hr hd
  have hf : fetch u.sampled = (i, u.sampled.fetched (encode i).length) := fetch_of_decode_at_pc hd
  rw [step_eq, hu, coreStep_of_readyToExecute hr, instructionStep, hf]
  dsimp only
  cases exec i (u.sampled.fetched (encode i).length) <;> rfl

/-! ## Two steps -/

variable {s t u : State} {i : Instr} {rest : List Byte}

/-- A step that runs a decoded instruction and completes: the instruction completes, and the charge and the promotion
are made on the state it leaves. -/
theorem step_next_of_decode (hu : beginStep s = u) (hr : u.ReadyToExecute)
    (hd : decode [u.readByte u.pc, u.readByte (u.pc + 1), u.readByte (u.pc + 2)] = .ok (i, rest))
    (h : step s = .next t) :
    ∃ v, exec i (u.sampled.fetched (encode i).length) = .next v ∧
      t = { promoteIme u.imePending (tick (baseCycles i) v) with outcome := some .executed } := by
  rw [stepRunsDecodedInstruction s u i rest hu hr hd] at h
  split at h <;> cases h
  exact ⟨_, ‹_›, rfl⟩

/-- The step of `EI` with no enable pending leaves the enable pending: the promotion needs one that was pending when the
step began (R129, R294). -/
theorem step_ei (hu : beginStep s = u) (hr : u.ReadyToExecute) (hp : u.imePending = false)
    (hop : u.readByte u.pc = 0xFB) (h : step s = .next t) :
    t.pc = u.pc + 1 ∧ t.ime = u.ime ∧ t.imePending = true ∧ t.mode = u.mode ∧ t.locked = u.locked ∧ t.env = u.env := by
  have hd (lo hi : Byte) : decode [u.readByte u.pc, lo, hi] = .ok (.ei, [lo, hi]) := by rw [hop]; rfl
  obtain ⟨v, hv, rfl⟩ := step_next_of_decode hu hr (hd _ _) h
  cases hv
  have hlen : (encode .ei).length = 1 := rfl
  rw [promoteIme_frame, hp]
  simp [opEnableInterrupts, Config.eiDelay, hlen]

/-- An instruction that runs with an enable pending and `ime` false ends with `ime` true, unless it is `DI`
(R129, R293). -/
theorem step_enables_of_pending (hu : beginStep s = u) (hr : u.ReadyToExecute) (hi : u.ime = false)
    (hp : u.imePending = true)
    (hd : decode [u.readByte u.pc, u.readByte (u.pc + 1), u.readByte (u.pc + 2)] = .ok (i, rest))
    (h : step s = .next t) :
    t.outcome = some .executed ∧ t.ime = !decide (i = .di) ∧ t.imePending = false := by
  obtain ⟨v, hv, rfl⟩ := step_next_of_decode hu hr hd h
  obtain ⟨-, hime, hpend, -⟩ := controlFrame i _ v hv
  simp only [fetched_ime, sampled_ime, hi] at hime
  simp only [fetched_imePending, sampled_imePending, hp] at hpend
  rw [promoteIme_frame, hp]
  refine ⟨rfl, ?_, rfl⟩
  show (v.imePending || v.ime) = _
  rw [hime, hpend]
  by_cases hdi : i = .di <;> simp [hdi]

/-- Settles O22: `EI` leaves the enable pending with `ime` false, so that the next step dispatches nothing and
promotes. -/
theorem enableAfterOneInstruction : Obligations.EnableAfterOneInstruction := by
  intro s t henv hr hime hpend hop ht
  obtain ⟨hpc, himeT, hpendT, hmodeT, hlockT, henvT⟩ := step_ei (beginStep_of_env_nil henv) hr hpend hop ht
  obtain ⟨hl, hm, -⟩ := hr
  have hime' : t.ime = false := himeT.trans hime
  refine ⟨hpc, hime', hpendT, fun u i rest hd hu => ?_⟩
  have hr' : t.ReadyToExecute := ⟨hlockT.trans hl, hmodeT.trans hm, .inl hime'⟩
  exact step_enables_of_pending (beginStep_of_env_nil (henvT.trans henv)) hr' hime' hpendT hd hu

end Sys2Proof.Machine
end

section
/-! SUPPORT. A well-formed instruction, its bytes and its meaning, and the high page as a sum. -/

namespace Sys2Proof.Machine

/-- A well-formed instruction stands for its encoding: what the encoder gives, the fetch reads back (R90, R123). -/
theorem encodedBy_of_wf {i : Instr} {bytes : List Byte} (hw : i.wf = true) (he : encode i = bytes) :
    EncodedBy i bytes := by
  subst he
  have hd : decode (encode i ++ []) = .ok (i, []) := Laws.RoundTrip.statement i [] hw
  rw [List.append_nil] at hd
  exact encodedBy_of_decode i _ rfl hd

/-- The shape of a statement about one instruction: its bytes, its base cost, and the state `u` it leaves, where `t` is
that state as its executor writes it. -/
theorem encodedBy_cycles_exec {i : Instr} {bytes : List Byte} {n : Nat} {s t u : State} (hw : i.wf = true)
    (he : encode i = bytes) (hc : baseCycles i = n) (hx : exec i s = .next t) (hu : t = u) :
    EncodedBy i bytes ∧ baseCycles i = n ∧ exec i s = .next u :=
  ⟨encodedBy_of_wf hw he, hc, hx.trans (congrArg Host.Outcome.next hu)⟩

/-- The high page is the page of the high byte 0xFF: its base and an offset share no bit. -/
theorem highPage_eq_joinBytes (n : Byte) : highPage n = joinBytes 0xFF n := rfl

/-- The `|` of R172 to R175 is a sum, which never leaves the page. -/
theorem highPage_eq_ofNat (n : Byte) : highPage n = BitVec.ofNat 16 (0xFF00 + n.toNat) := by
  apply BitVec.eq_of_toNat_eq
  rw [highPage_eq_joinBytes, joinBytes_toNat, BitVec.toNat_ofNat]
  have hn : n.toNat < 256 := n.isLt
  show 256 * 0xFF + n.toNat = _
  omega

end Sys2Proof.Machine
end

section
/-! SUPPORT. The statements of the family `41_load8.md`. -/

namespace Sys2Proof.Machine

/-- Settles O29, row by row: each instruction of the two tables runs the copy with its own operands. -/
theorem loadRegister : Obligations.LoadRegister := by
  refine fun s => ⟨fun i dst src h => ?_, fun k dst n h => ?_⟩
  · fin_cases h <;> exact encodedBy_cycles_exec rfl rfl rfl rfl rfl
  · fin_cases h <;> exact encodedBy_cycles_exec rfl rfl rfl rfl rfl

/-- Settles O30, row by row: the load reads at the old `HL`, and then `H` and `L` are written like any other register. -/
theorem loadAndStoreAtHl : Obligations.LoadAndStoreAtHl := by
  refine fun s => ⟨fun i dst h => ?_, fun i src h => ?_, fun n => ?_⟩
  · fin_cases h <;> exact encodedBy_cycles_exec rfl rfl rfl rfl (opLdRegInd_eq s _)
  · fin_cases h <;> exact encodedBy_cycles_exec rfl rfl rfl rfl (opLdIndReg_eq s _)
  · exact encodedBy_cycles_exec rfl rfl rfl rfl (memWrite_eq s s.hl n)

/-- Settles O31: each form is a load of `A` from a pair, or a store of `A` at one. -/
theorem accumulatorAtBcDe : Obligations.AccumulatorAtBcDe := fun s =>
  ⟨encodedBy_cycles_exec rfl rfl rfl rfl (opLoadA_eq s (s.reg16 .bc)),
    encodedBy_cycles_exec rfl rfl rfl rfl (opLoadA_eq s (s.reg16 .de)),
    encodedBy_cycles_exec rfl rfl rfl rfl (memWrite_eq s (s.reg16 .bc) s.a),
    encodedBy_cycles_exec rfl rfl rfl rfl (memWrite_eq s (s.reg16 .de) s.a)⟩

/-- Settles O32: the six forms are one load and one store of `A`, at three addresses. -/
theorem accumulatorAbsoluteAndHighPage : Obligations.AccumulatorAbsoluteAndHighPage := by
  intro s addr n
  simp only [← highPage_eq_ofNat]
  exact ⟨encodedBy_cycles_exec rfl rfl rfl rfl (opLoadA_eq s addr),
    encodedBy_cycles_exec rfl rfl rfl rfl (memWrite_eq s addr s.a),
    encodedBy_cycles_exec rfl rfl rfl rfl (opLoadA_eq s (highPage n)),
    encodedBy_cycles_exec rfl rfl rfl rfl (memWrite_eq s (highPage n) s.a),
    encodedBy_cycles_exec rfl rfl rfl rfl (opLoadA_eq s (highPage s.c)),
    encodedBy_cycles_exec rfl rfl rfl rfl (memWrite_eq s (highPage s.c) s.a)⟩

/-- Settles O33: the access is a load or a store of `A` at the old `HL`, and what `HL` becomes is computed from it. -/
theorem accumulatorAtHlWithStep : Obligations.AccumulatorAtHlWithStep := fun s =>
  have store (hl' : Word) := congrArg (State.setReg16 · .hl hl') (memWrite_eq s s.hl s.a)
  have load (hl' : Word) := congrArg (State.setReg16 · .hl hl') (opLoadA_eq s s.hl)
  ⟨encodedBy_cycles_exec rfl rfl rfl rfl (store (s.hl + 1)),
    encodedBy_cycles_exec rfl rfl rfl rfl (store (s.hl - 1)),
    encodedBy_cycles_exec rfl rfl rfl rfl (load (s.hl + 1)),
    encodedBy_cycles_exec rfl rfl rfl rfl (load (s.hl - 1))⟩

end Sys2Proof.Machine
end

section
/-! SUPPORT. The store of a word, and the pairs of the stack group: what runs for each row, and what a pair holds after a
write to it. -/

namespace Sys2Proof.Machine

variable {i : Instr} {r : StackReg}

theorem memWrite16_eq (s : State) (addr w : Word) :
    memWrite16 addr w s = (s.withWrite addr (low w)).withWrite (addr + 1) (high w) := rfl

theorem exec_pushPair (h : (i, r) ∈ Forms.pushPair) (s : State) : exec i s = .next (opPushPair r s) := by
  fin_cases h <;> rfl

theorem exec_popPair (h : (i, r) ∈ Forms.popPair) (s : State) : exec i s = .next (opPopPair r s) := by
  fin_cases h <;> rfl

/-- A pair holds the word written to it, but for the low nibble of `F` (R21, R23). -/
theorem setStackReg_stackReg_same (s : State) (r : StackReg) (w : Word) :
    (s.setStackReg r w).stackReg r = if r = .af then w &&& 0xFFF0 else w := by
  cases r
  case af => exact setStackReg_stackReg_af s w
  case bc | de | hl => exact join_high_low w

end Sys2Proof.Machine
end

section
/-! SUPPORT. The statements of the family `42_load16_stack.md`. -/

namespace Sys2Proof.Machine

/-- Settles O34: the store is the two writes of `memWrite16` at the address and its successor, and every load is one write
of a pair or of `sp`. -/
theorem loadPairs : Obligations.LoadPairs := by
  refine fun s n => ⟨fun k r h => ?_, ?_, ?_⟩
  · fin_cases h <;> exact encodedBy_cycles_exec rfl rfl rfl rfl rfl
  · exact encodedBy_cycles_exec rfl rfl rfl rfl (memWrite16_eq s n s.sp)
  · exact encodedBy_cycles_exec rfl rfl rfl rfl rfl

/-- Settles O35: each row pushes or pops its own pair, and `AF` is masked where the pair is read and where it is
written. -/
theorem pushAndPop : Obligations.PushAndPop := by
  refine fun s => ⟨fun i r h => ?_, fun i r h => ?_⟩
  · have hx := exec_pushPair h s
    fin_cases h <;> exact encodedBy_cycles_exec rfl rfl rfl hx (opPushPair_eq s _)
  · have hx := exec_popPair h s
    fin_cases h <;> exact encodedBy_cycles_exec rfl rfl rfl hx (opPopPair_eq s _)

/-- Settles O36: the pop gives back the pushed word and `sp`, so `ss` is written with the value of `rr`. -/
theorem pushThenPopCopies : Obligations.PushThenPopCopies := by
  intro s t u i j r q hi hj ht hu
  rw [exec_pushPair hi] at ht
  cases ht
  rw [exec_popPair hj] at hu
  cases hu
  obtain ⟨hlow, -⟩ := push16_readByte s (s.stackReg r)
  obtain ⟨hword, hsp⟩ := pop16_push16 s (s.stackReg r)
  refine ⟨push16_sp .., hlow, ?_, (setStackReg_sp ..).trans hsp⟩
  calc (opPopPair q (opPushPair r s)).stackReg q
      = if q = .af then (pop16 (push16 (s.stackReg r) s)).1 &&& 0xFFF0 else (pop16 (push16 (s.stackReg r) s)).1 :=
        setStackReg_stackReg_same ..
    _ = if q = .af then s.stackReg r &&& 0xFFF0 else s.stackReg r := by rw [hword]

end Sys2Proof.Machine
end

section
/-! SUPPORT. The sums and differences of R210 with their carries, the next state of each accumulator operation, and the
decimal adjustment of R223. -/

namespace Sys2Proof.Machine

variable (s : State) (v x y : Byte)

/-! ## Sums and differences -/

theorem add8_res_carry (cin : Bool) :
    (add8 x y cin).res = BitVec.ofNat 8 ((x.toNat + y.toNat + cin.toNat) % 256) :=
  BitVec.eq_of_toNat_eq (by simp [add8])

theorem add8_res_eq_zero (cin : Bool) :
    ((add8 x y cin).res == 0) = decide ((x.toNat + y.toNat + cin.toNat) % 256 = 0) := by
  rw [beq_eq_decide, decide_eq_decide, BitVec.toNat_eq]
  rfl

theorem sub8_res_borrow (cin : Bool) : (sub8 x y cin).res = x - y - BitVec.ofNat 8 cin.toNat := by
  apply BitVec.eq_of_toNat_eq
  have hx := x.isLt
  have hy := y.isLt
  have hc := cin.toNat_le
  simp only [sub8, BitVec.toNat_ofInt, BitVec.toNat_sub, BitVec.toNat_ofNat]
  omega

/-- A difference without a borrow-in is zero when the two bytes are equal. -/
theorem sub8_res_eq_zero : ((sub8 x y false).res == 0) = decide (x = y) := by
  rw [sub8_res, beq_eq_decide, decide_eq_decide]
  exact sub_eq_zero

/-! ## The accumulator operations -/

theorem accumulate_add_eq : accumulate .add v s = { s with
    a := s.a + v
    f := packFlags (decide (s.a + v = 0)) false (decide (s.a.toNat % 16 + v.toNat % 16 > 0x0F))
      (decide (s.a.toNat + v.toNat > 0xFF)) } := by
  rw [← add8_res]
  exact setFlags_eq ..

theorem accumulate_add_flags :
    (accumulate .add v s).flagN = false ∧
    (accumulate .add v s).flagH = decide (s.a.toNat % 16 + v.toNat % 16 > 0x0F) ∧
    (accumulate .add v s).flagC = decide (s.a.toNat + v.toNat > 0xFF) := by
  rw [accumulate_add_eq]
  exact ⟨packFlags_n .., packFlags_h .., packFlags_c ..⟩

theorem accumulate_adc_eq : accumulate .adc v s = { s with
    a := BitVec.ofNat 8 ((s.a.toNat + v.toNat + s.flagC.toNat) % 256)
    f := packFlags (decide ((s.a.toNat + v.toNat + s.flagC.toNat) % 256 = 0)) false
      (decide (s.a.toNat % 16 + v.toNat % 16 + s.flagC.toNat > 0x0F))
      (decide (s.a.toNat + v.toNat + s.flagC.toNat > 0xFF)) } := by
  rw [← add8_res_carry, ← add8_res_eq_zero]
  exact setFlags_eq ..

theorem accumulate_sub_eq : accumulate .sub v s = { s with
    a := s.a - v
    f := packFlags (decide (s.a = v)) true (decide (s.a.toNat % 16 < v.toNat % 16))
      (decide (s.a.toNat < v.toNat)) } := by
  rw [← sub8_res, ← sub8_res_eq_zero]
  exact setFlags_eq ..

theorem accumulate_sbc_eq : accumulate .sbc v s = { s with
    a := s.a - v - BitVec.ofNat 8 s.flagC.toNat
    f := packFlags (decide (s.a - v - BitVec.ofNat 8 s.flagC.toNat = 0)) true
      (decide (s.a.toNat % 16 < v.toNat % 16 + s.flagC.toNat))
      (decide (s.a.toNat < v.toNat + s.flagC.toNat)) } := by
  rw [← sub8_res_borrow]
  exact setFlags_eq ..

theorem accumulate_cp_eq : accumulate .cp v s = { s with
    f := packFlags (decide (s.a = v)) true (decide (s.a.toNat % 16 < v.toNat % 16))
      (decide (s.a.toNat < v.toNat)) } := by
  rw [← sub8_res_eq_zero]
  exact setFlags_eq ..

/-- The three operand forms of R210 differ only in where the operand comes from: each has the effect `accumulate` has. -/
theorem sourceForms_of_accumulate {op : AluOp} {effect : State → Byte → State}
    (h : ∀ s v, accumulate op v s = effect s v) : Forms.sourceForms op effect := by
  refine fun s => ⟨fun i r hi => ?_, fun i hi => ?_, fun k n hk => ?_⟩
  · fin_cases hi <;> exact encodedBy_cycles_exec rfl rfl rfl rfl (h s _)
  · fin_cases hi <;> exact encodedBy_cycles_exec rfl rfl rfl rfl (h (s.withRead s.hl) _)
  · fin_cases hk <;> exact encodedBy_cycles_exec rfl rfl rfl rfl (h s n)

/-! ## Increments and decrements -/

/-- The flags of an increment as tests of the old value. -/
theorem incFlags_eq_decide : incFlags v s = { s with
    f := packFlags (decide (v = 0xFF)) false (decide (v.toNat % 16 = 0x0F)) s.flagC } := by
  have hz : (v + 1 == 0) = decide (v = 0xFF) := by
    rw [beq_eq_decide, decide_eq_decide]
    exact add_eq_zero_iff_eq_neg
  have hh : decide (v.toNat % 16 + 1 > 15) = decide (v.toNat % 16 = 0x0F) := by
    rw [decide_eq_decide]
    omega
  rw [incFlags_eq, hz, hh]

/-- The flags of a decrement as tests of the old value. -/
theorem decFlags_eq_decide : decFlags v s = { s with
    f := packFlags (decide (v = 0x01)) true (decide (v.toNat % 16 = 0)) s.flagC } := by
  have hz : (v - 1 == 0) = decide (v = 0x01) := by
    rw [beq_eq_decide, decide_eq_decide]
    exact sub_eq_zero
  rw [decFlags_eq, hz]
  simp only [Nat.lt_one_iff]

/-! ## Decimal adjustment -/

/-- The adjustment of R223: 0x06 for the low digit and 0x60 for the high one. -/
def decimalAdjustment (low high : Bool) : Nat := (if low then 0x06 else 0) + if high then 0x60 else 0

theorem decimalAdjusted_after_add (h c : Bool) :
    decimalAdjusted x false h c =
      (BitVec.ofNat 8 (x.toNat + decimalAdjustment (h || decide (x.toNat % 16 > 9)) (c || decide (x.toNat > 0x99))),
        c || decide (x.toNat > 0x99)) := by
  have hadd (low high : Bool) : x + (if low then 0x06 else 0x00) + (if high then 0x60 else 0x00) =
      BitVec.ofNat 8 (x.toNat + decimalAdjustment low high) := by
    unfold decimalAdjustment
    split_ifs <;> bv_omega
  exact Prod.ext (hadd _ _) rfl

theorem decimalAdjusted_after_sub (h c : Bool) :
    decimalAdjusted x true h c = (BitVec.ofNat 8 (x.toNat + 256 - decimalAdjustment h c), c) := by
  have hsub : x - (if h then 0x06 else 0x00) - (if c then 0x60 else 0x00) =
      BitVec.ofNat 8 (x.toNat + 256 - decimalAdjustment h c) := by
    unfold decimalAdjustment
    split_ifs <;> bv_omega
  exact Prod.ext hsub rfl

/-- The tests of R223 on a sum, with the carries of the addition: whether the exact sum of the low nibbles passes 9, and
whether the exact sum passes 0x99. -/
theorem decimalAdjusted_of_sum :
    decimalAdjusted (x + y) false (decide (x.toNat % 16 + y.toNat % 16 > 0x0F)) (decide (x.toNat + y.toNat > 0xFF)) =
      (BitVec.ofNat 8 (x.toNat + y.toNat +
          decimalAdjustment (decide (x.toNat % 16 + y.toNat % 16 > 9)) (decide (x.toNat + y.toNat > 0x99))),
        decide (x.toNat + y.toNat > 0x99)) := by
  have hx := x.isLt
  have hy := y.isLt
  have hsum : (x + y).toNat = (x.toNat + y.toNat) % 256 := BitVec.toNat_add x y
  have hlow : (decide (x.toNat % 16 + y.toNat % 16 > 0x0F) || decide ((x + y).toNat % 16 > 9)) =
      decide (x.toNat % 16 + y.toNat % 16 > 9) := by
    rw [← Bool.decide_or, decide_eq_decide, hsum]
    omega
  have hhigh : (decide (x.toNat + y.toNat > 0xFF) || decide ((x + y).toNat > 0x99)) =
      decide (x.toNat + y.toNat > 0x99) := by
    rw [← Bool.decide_or, decide_eq_decide, hsum]
    omega
  rw [decimalAdjusted_after_add, hlow, hhigh]
  exact Prod.ext (BitVec.eq_of_toNat_eq (by simp [hsum])) rfl

/-- The adjusted byte `r` of the sum of two packed decimal numbers: two digits, with 100 more where the sum passes 0x99. -/
theorem decimalAdjustment_of_digits {x y r : Nat} (hx : x % 16 ≤ 9) (hx' : x / 16 ≤ 9) (hy : y % 16 ≤ 9)
    (hy' : y / 16 ≤ 9)
    (hr : r = (x + y + decimalAdjustment (decide (x % 16 + y % 16 > 9)) (decide (x + y > 0x99))) % 256) :
    r % 16 ≤ 9 ∧ r / 16 ≤ 9 ∧
      10 * (x / 16) + x % 16 + (10 * (y / 16) + y % 16) =
        10 * (r / 16) + r % 16 + if x + y > 0x99 then 100 else 0 := by
  simp only [decimalAdjustment, decide_eq_true_eq] at hr
  split_ifs at hr ⊢ <;> omega

theorem exec_daa_a_flagC {s t : State} (h : exec .daa s = .next t) :
    t.a = (decimalAdjusted s.a s.flagN s.flagH s.flagC).1 ∧
    t.flagC = (decimalAdjusted s.a s.flagN s.flagH s.flagC).2 := by
  cases h
  exact ⟨setFlags_a .., setFlags_flagC ..⟩

end Sys2Proof.Machine
end

section
/-! SUPPORT. The statements of the family `43_alu8.md`. -/

namespace Sys2Proof.Machine

/-- Settles O37: both operations are `add8`, `ADD` without a carry-in and `ADC` with the old `C`. -/
theorem addAndAddWithCarry : Obligations.AddAndAddWithCarry := by
  refine ⟨sourceForms_of_accumulate accumulate_add_eq, sourceForms_of_accumulate fun s v => ?_⟩
  rw [accumulate_adc_eq, Bool.toNat, cond_eq_ite]

/-- Settles O38: all three operations are `sub8`, `SBC` with the old `C` as the borrow-in, and `CP` keeps only its flags. -/
theorem subtractAndCompare : Obligations.SubtractAndCompare := by
  refine ⟨sourceForms_of_accumulate accumulate_sub_eq, sourceForms_of_accumulate fun s v => ?_,
    sourceForms_of_accumulate accumulate_cp_eq⟩
  rw [accumulate_sbc_eq, Bool.toNat, cond_eq_ite]

/-- Settles O39: the flags of a bitwise operation are one update of `F`. -/
theorem bitwiseLogic : Obligations.BitwiseLogic :=
  ⟨sourceForms_of_accumulate fun _ _ => setFlags_eq .., sourceForms_of_accumulate fun _ _ => setFlags_eq ..,
    sourceForms_of_accumulate fun _ _ => setFlags_eq ..⟩

/-- Settles O40, row by row: the flags come from the old value, and then the register or the byte at `HL` is written. -/
theorem incrementAndDecrement : Obligations.IncrementAndDecrement := by
  refine fun s => ⟨fun i r h => ?_, ?_, fun i r h => ?_, ?_⟩
  · fin_cases h <;>
      exact encodedBy_cycles_exec rfl rfl rfl rfl (congrArg (State.setReg8 · _ _) (incFlags_eq_decide s _))
  · exact encodedBy_cycles_exec rfl rfl rfl rfl (incFlags_eq_decide ..)
  · fin_cases h <;>
      exact encodedBy_cycles_exec rfl rfl rfl rfl (congrArg (State.setReg8 · _ _) (decFlags_eq_decide s _))
  · exact encodedBy_cycles_exec rfl rfl rfl rfl (decFlags_eq_decide ..)

/-- Settles O41: the algorithm by the two values of `N`. -/
theorem decimalAdjust : Obligations.DecimalAdjust := by
  intro s low upper adj res
  have hr : decimalAdjusted s.a s.flagN s.flagH s.flagC = (res, upper) := by
    cases hn : s.flagN
    case false => simp [decimalAdjusted_after_add, decimalAdjustment, res, adj, low, upper, hn]
    case true => simp [decimalAdjusted_after_sub, decimalAdjustment, res, adj, low, upper, hn]
  refine encodedBy_cycles_exec rfl rfl rfl rfl ((setFlags_eq ..).trans ?_)
  rw [hr]
  rfl

/-- Settles O42: with the carries of the addition, the tests of `DAA` are tests of the exact sum, and `C` says whether it
passes 0x99. -/
theorem decimalSumAfterAdd : Obligations.DecimalSumAfterAdd := by
  intro s t u n hx hx' hy hy' ht hu value
  have hadd : exec (.addAN8 n) s = .next (accumulate .add n s) := rfl
  cases hadd.symm.trans ht
  have hsum : (accumulate .add n s).a = s.a + n := by rw [accumulate_add_eq]
  obtain ⟨hn, hh, hc⟩ := accumulate_add_flags s n
  obtain ⟨ha, hcarry⟩ := exec_daa_a_flagC hu
  rw [hsum, hn, hh, hc, decimalAdjusted_of_sum] at ha hcarry
  obtain ⟨hlow, hhigh, hvalue⟩ := decimalAdjustment_of_digits hx hx' hy hy' (congrArg BitVec.toNat ha)
  refine ⟨hlow, hhigh, hvalue.trans ?_⟩
  simp [value, hcarry]

/-- Settles O43: each operation is one update of `F`, and the complement of `A` is its exclusive or with 0xFF. -/
theorem complementAndCarry : Obligations.ComplementAndCarry := by
  refine fun s => ⟨?_, ?_, ?_⟩
  · refine encodedBy_cycles_exec rfl rfl rfl rfl ((setFlags_eq ..).trans ?_)
    rw [← BitVec.xor_allOnes]
    rfl
  · exact encodedBy_cycles_exec rfl rfl rfl rfl (setFlags_eq ..)
  · exact encodedBy_cycles_exec rfl rfl rfl rfl (setFlags_eq ..)

end Sys2Proof.Machine
end

section
/-! SUPPORT. The sums of R252 to R254: the exact sum of two words, and a word with a signed offset. -/

namespace Sys2Proof.Machine

/-- `ADD HL,r16` as one exact sum of two words: its low 16 bits in `HL`, its carries in `F`. -/
theorem opAddHl_eq (s : State) (r : Reg16) : opAddHl r s = ({ s with
    f := packFlags s.flagZ false
      (decide ((s.reg16 .hl).toNat % 0x1000 + (s.reg16 r).toNat % 0x1000 > 0x0FFF))
      (decide ((s.reg16 .hl).toNat + (s.reg16 r).toNat > 0xFFFF)) }.setReg16
        .hl (BitVec.ofNat 16 ((s.reg16 .hl).toNat + (s.reg16 r).toNat))) := by
  have hsum : BitVec.ofNat 16 ((s.reg16 .hl).toNat + (s.reg16 r).toNat) = s.hl + s.reg16 r := by
    rw [BitVec.ofNat_add, BitVec.ofNat_toNat, BitVec.ofNat_toNat, BitVec.setWidth_eq, BitVec.setWidth_eq]
    rfl
  rw [hsum]
  exact congrArg (State.setReg16 · .hl (s.hl + s.reg16 r)) (addHlFlags_eq ..)

/-- The modular sum with a sign-extended offset is the sum of the integers they stand for. -/
theorem add_sext16 (w : Word) (e : Byte) : w + sext16 e = BitVec.ofInt 16 (w.toNat + e.toInt) := by
  rw [BitVec.ofInt_add, BitVec.ofInt_natCast, BitVec.ofNat_toNat, BitVec.setWidth_eq]
  rfl

theorem low_toNat (w : Word) : (low w).toNat = w.toNat % 256 := BitVec.extractLsb'_toNat ..

/-- The flags of R253 and R254 as tests of the low byte of the word, which is its value modulo 2^8. -/
theorem spOffsetFlags_eq_decide (w : Word) (e : Byte) (s : State) : spOffsetFlags w e s = { s with
    f := packFlags false false (decide (w.toNat % 16 + e.toNat % 16 > 0x0F))
      (decide (w.toNat % 256 + e.toNat > 0xFF)) } := by
  have hnibble : w.toNat % 256 % 16 = w.toNat % 16 := Nat.mod_mod_of_dvd _ (by decide)
  simp only [spOffsetFlags_eq, add8, low_toNat, hnibble, Bool.toNat_false, Nat.add_zero]

end Sys2Proof.Machine
end

section
/-! SUPPORT. The statements of the family `44_alu16.md`. -/

namespace Sys2Proof.Machine

/-- Settles O44, row by row: each instruction is one write of its own pair, or of `sp`. -/
theorem incrementAndDecrementPairs : Obligations.IncrementAndDecrementPairs := by
  refine fun s => ⟨fun i r h => ?_, fun i r h => ?_⟩
  · fin_cases h <;> exact encodedBy_cycles_exec rfl rfl rfl rfl rfl
  · fin_cases h <;> exact encodedBy_cycles_exec rfl rfl rfl rfl rfl

/-- Settles O45, row by row: both operands are read before `HL` is written, so `ADD HL,HL` is no exception. -/
theorem addToHl : Obligations.AddToHl := by
  intro s i r h
  fin_cases h <;> exact encodedBy_cycles_exec rfl rfl rfl rfl (opAddHl_eq s _)

/-- Settles O46: both forms have one sum and one set of flags, and differ only in where the sum goes. -/
theorem stackPointerOffset : Obligations.StackPointerOffset := by
  intro s e sum f
  have hsum : s.sp + sext16 e = sum := add_sext16 s.sp e
  have hflags : spOffsetFlags s.sp e s = { s with f := f } := spOffsetFlags_eq_decide s.sp e s
  refine ⟨encodedBy_cycles_exec rfl rfl rfl rfl ?_, encodedBy_cycles_exec rfl rfl rfl rfl ?_⟩
  · rw [hflags, hsum]
  · rw [hflags, hsum]

end Sys2Proof.Machine
end

section
/-! SUPPORT. The control transfers as updates of the state, in the terms of `Safety.lean`. A conditional one takes its
transfer and the cycles for it (R393), or leaves the state as it is. -/

namespace Sys2Proof.Machine

variable (s : State)

theorem opJpCond_eq (cc : Cond) (n : Word) :
    opJpCond cc n s = if s.cond cc then
      { s with pc := n, mCycles := s.mCycles + 1, tStates := s.tStates + 4 } else s := rfl

theorem opJr_eq (e : Byte) : opJr e s = { s with pc := BitVec.ofInt 16 (s.pc.toNat + e.toInt) } :=
  congrArg (jumpTo · s) (add_sext16 s.pc e)

theorem opJrCond_eq (cc : Cond) (e : Byte) :
    opJrCond cc e s = if s.cond cc then
      { s with
        pc := BitVec.ofInt 16 (s.pc.toNat + e.toInt), mCycles := s.mCycles + 1, tStates := s.tStates + 4 } else s := by
  rw [opJrCond, opJr_eq]
  rfl

theorem opCallCond_eq (cc : Cond) (n : Word) :
    opCallCond cc n s = if s.cond cc then
      { (s.withWrite (s.sp - 1) (high s.pc)).withWrite (s.sp - 2) (low s.pc) with
        sp := s.sp - 2, pc := n, mCycles := s.mCycles + 3, tStates := s.tStates + 12 } else s := by
  rw [opCallCond, opCall_eq]
  rfl

theorem opRetCond_eq (cc : Cond) :
    opRetCond cc s = if s.cond cc then
      { (s.withRead s.sp).withRead (s.sp + 1) with
        sp := s.sp + 2, pc := joinBytes (s.readByte (s.sp + 1)) (s.readByte s.sp)
        mCycles := s.mCycles + 3, tStates := s.tStates + 12 } else s := by
  rw [opRetCond, returnFromCall_eq]
  rfl

/-- What a return does to `pc` and `sp` depends on `sp` and the two bytes there only (R135, R273). -/
theorem returnFromCall_pc_sp_congr {s t : State} (hsp : s.sp = t.sp) (hlow : s.readByte s.sp = t.readByte t.sp)
    (hhigh : s.readByte (s.sp + 1) = t.readByte (t.sp + 1)) :
    (returnFromCall s).pc = (returnFromCall t).pc ∧ (returnFromCall s).sp = (returnFromCall t).sp := by
  rw [returnFromCall_pc, returnFromCall_pc, returnFromCall_sp, returnFromCall_sp, hlow, hhigh, hsp]
  exact ⟨rfl, rfl⟩

/-- A return right after a call undoes its push (R276). -/
theorem returnFromCall_opCall (n : Word) :
    (returnFromCall (opCall n s)).pc = s.pc ∧ (returnFromCall (opCall n s)).sp = s.sp := pop16_push16 s s.pc

end Sys2Proof.Machine
end

section
/-! SUPPORT. The statements of the family `45_control_flow.md`. -/

namespace Sys2Proof.Machine

/-- Settles O47: each jump is one write of `pc`, and a conditional one charges a cycle when it is taken. -/
theorem absoluteJumps : Obligations.AbsoluteJumps := by
  refine fun s n => ⟨encodedBy_cycles_exec rfl rfl rfl rfl rfl, encodedBy_cycles_exec rfl rfl rfl rfl rfl,
    fun k cc h => ?_⟩
  fin_cases h <;> exact encodedBy_cycles_exec rfl rfl rfl rfl (opJpCond_eq s _ n)

/-- Settles O48: the offset is added modulo 2^16 to a `pc` that is already past the instruction. -/
theorem relativeJumps : Obligations.RelativeJumps := by
  refine fun s e => ⟨encodedBy_cycles_exec rfl rfl rfl rfl (opJr_eq s e), fun k cc h => ?_⟩
  fin_cases h <;> exact encodedBy_cycles_exec rfl rfl rfl rfl (opJrCond_eq s _ e)

/-- Settles O49: `CALL`, a `CALL cc` that is taken and `RST` are one push of `pc` and one jump. -/
theorem calls : Obligations.Calls := by
  refine fun s n => ⟨encodedBy_cycles_exec rfl rfl rfl rfl (opCall_eq s n), fun k cc h => ?_, fun i vec h => ?_⟩
  · fin_cases h <;> exact encodedBy_cycles_exec rfl rfl rfl rfl (opCallCond_eq s _ n)
  · have hvec : vec ∈ [0x00, 0x08, 0x10, 0x18, 0x20, 0x28, 0x30, 0x38] := List.mem_map_of_mem (f := Prod.snd) h
    refine ⟨hvec, ?_⟩
    fin_cases h <;> exact encodedBy_cycles_exec rfl rfl rfl rfl (opCall_eq s _)

/-- Settles O50: the three returns are one pop into `pc`, and `RETI` writes `ime` besides. -/
theorem returns : Obligations.Returns := by
  refine fun s => ⟨encodedBy_cycles_exec rfl rfl rfl rfl (returnFromCall_eq s),
    encodedBy_cycles_exec rfl rfl rfl rfl (congrArg ({ · with ime := true }) (returnFromCall_eq s)), fun i cc h => ?_⟩
  fin_cases h <;> exact encodedBy_cycles_exec rfl rfl rfl rfl (opRetCond_eq s _)

/-- Settles O51: the return sees the `sp` and the stack bytes the call left, so it does what it would right after the
call. -/
theorem callThenReturn : Obligations.CallThenReturn := by
  intro s t u n ht v hsp hlow hhigh hu
  cases ht
  cases hu
  obtain ⟨hpcSame, hspSame⟩ := returnFromCall_pc_sp_congr hsp hlow hhigh
  obtain ⟨hpcBack, hspBack⟩ := returnFromCall_opCall s n
  exact ⟨hpcSame.trans hpcBack, hspSame.trans hspBack⟩

end Sys2Proof.Machine
end

section
/-! SUPPORT. The instruction step at an illegal byte, and the prefix byte as the Table B instruction that follows it. -/

namespace Sys2Proof.Machine

variable {s : State} {i : Instr}

/-- The illegal byte is fetched alone and raises its fault there: `pc` is one past it, and nothing is charged (R295,
R341). -/
theorem instructionStep_illegal (h : (i, s.readByte s.pc) ∈ Forms.illegal) :
    instructionStep s =
      .fault (.illegalOpcode (s.readByte s.pc) false s.pc { s.fetchedByte with locked := true }) := by
  obtain ⟨-, -, ht⟩ := illegal_row h
  have hf : fetch s = (i, s.fetchedByte) := fetch_plain s i ht
  have hpc : s.fetchedByte.pc - 1 = s.pc := BitVec.add_sub_cancel s.pc 1
  rw [instructionStep, hf]
  dsimp only
  rw [exec_illegal h, raiseIllegalOpcode, hpc]

/-- The prefix byte runs the operation of the Table B instruction at the byte it reads, at that instruction's cost
(R296). -/
theorem exec_prefixCb (s : State) : exec .prefixCb s =
    .next (tick (baseCycles (Decoder.tableB (s.readByte s.pc))) (opTableB (s.readByte s.pc) s.fetchedByte)) := by
  rw [tableB_cycles]
  rfl

end Sys2Proof.Machine
end

section
/-! SUPPORT. The statements of the family `46_system.md`. -/

namespace Sys2Proof.Machine

/-- Settles O19: the two samples that begin the step leave `pc` and the byte there as they are. -/
theorem illegalByteFaults : Obligations.IllegalByteFaults := fun _ _ _ hr hi =>
  (coreStep_of_readyToExecute hr).trans (instructionStep_illegal hi)

/-- Settles O54: Table B has an instruction at every second byte, and its operation never stops the core. -/
theorem prefixRunsTableB : Obligations.PrefixRunsTableB := by
  intro s
  have hdec : decode [0xCB, s.readByte s.pc] = .ok (Decoder.tableB (s.readByte s.pc), []) :=
    decode_cons_iff.mpr (.prefixByte _ [])
  exact ⟨rfl, rfl, _, _, hdec, tableB_exec s.fetchedByte _, exec_prefixCb s⟩

/-- Settles O52: each is its opcode byte alone, at one cycle, and its meaning is the update as it stands. -/
theorem nopAndDisable : Obligations.NopAndDisable := fun _ =>
  ⟨encodedBy_cycles_exec rfl rfl rfl rfl rfl, encodedBy_cycles_exec rfl rfl rfl rfl rfl⟩

/-- Settles O53: `STOP` reads its padding byte into its operand and runs without it; `EI` takes the branch of
`EI_DELAY = true`. -/
theorem haltStopEnable : Obligations.HaltStopEnable := fun s =>
  have hei : opEnableInterrupts Config.eiDelay s = { s with imePending := true } := if_pos rfl
  ⟨encodedBy_cycles_exec rfl rfl rfl rfl rfl, fun _ => encodedBy_cycles_exec rfl rfl rfl rfl rfl,
    encodedBy_cycles_exec rfl rfl rfl rfl hei⟩

end Sys2Proof.Machine
end

section
/-! SUPPORT. The results of R305 to R325 in the braces of the rules, and the bits of a byte under the masks of R328 and
R330. -/

namespace Sys2Proof.Machine

/-! ## Rotates and shifts as concatenations -/

/-- A byte moved left by one, with `x` entering bit 0: `{v[6:0], x}`. -/
theorem shiftLeft_or_lsbIf (v : Byte) (x : Bool) :
    (v <<< 1) ||| lsbIf x = (v.extractLsb' 0 7 ++ BitVec.ofBool x : BitVec 8) := by
  have hv : v <<< 1 = (v.extractLsb' 0 7 ++ 0#1 : BitVec 8) := BitVec.shiftLeft_eq_concat_of_lt (by decide)
  have hx : lsbIf x = (0#7 ++ BitVec.ofBool x : BitVec 8) := by cases x <;> rfl
  rw [hv, hx, BitVec.or_append, BitVec.or_zero, BitVec.zero_or]

/-- A byte moved right by one, with `x` entering bit 7: `{x, v[7:1]}`. -/
theorem ushiftRight_or_msbIf (v : Byte) (x : Bool) :
    (v >>> 1) ||| msbIf x = (BitVec.ofBool x ++ v.extractLsb' 1 7 : BitVec 8) := by
  have hv : v >>> 1 = (0#1 ++ v.extractLsb' 1 7 : BitVec 8) := BitVec.ushiftRight_eq_extractLsb'_of_lt (by decide)
  have hx : msbIf x = (BitVec.ofBool x ++ 0#7 : BitVec 8) := by cases x <;> rfl
  rw [hv, hx, BitVec.or_append, BitVec.zero_or, BitVec.or_zero]

/-- The sign bit alone, which an arithmetic shift keeps (R320). -/
theorem and_0x80 (v : Byte) : v &&& 0x80 = msbIf (v.getLsbD 7) := BitVec.and_twoPow v 7

/-- The two nibbles change places: `{v[3:0], v[7:4]}`. -/
theorem shiftLeft_or_ushiftRight_nibble (v : Byte) :
    (v <<< 4) ||| (v >>> 4) = (v.extractLsb' 0 4 ++ v.extractLsb' 4 4 : BitVec 8) := by
  have hl : v <<< 4 = (v.extractLsb' 0 4 ++ 0#4 : BitVec 8) := BitVec.shiftLeft_eq_concat_of_lt (by decide)
  have hr : v >>> 4 = (0#4 ++ v.extractLsb' 4 4 : BitVec 8) := BitVec.ushiftRight_eq_extractLsb'_of_lt (by decide)
  rw [hl, hr, BitVec.or_append, BitVec.or_zero, BitVec.zero_or]

/-- The shifts and masks of the model are the braces of the rules: a bit that moves in is the one the rule names, and a
0 where the shift itself moves one in. -/
theorem shifted_eq_shiftSpec (op : ShiftOp) (v : Byte) (c : Bool) : shifted op v c = Forms.shiftSpec op v c := by
  refine Prod.ext ?_ (by cases op <;> rfl)
  cases op
  case rlc | rl => exact shiftLeft_or_lsbIf v _
  case rrc | rr => exact ushiftRight_or_msbIf v _
  case sla => exact BitVec.shiftLeft_eq_concat_of_lt (by decide)
  case srl => exact BitVec.ushiftRight_eq_extractLsb'_of_lt (by decide)
  case sra => exact (congrArg _ (and_0x80 v)).trans (ushiftRight_or_msbIf v _)
  case swap => exact shiftLeft_or_ushiftRight_nibble v

/-! ## The operations in the terms of the rules -/

variable (s : State) (op : ShiftOp)

theorem opRotateA_eq_shiftSpec : opRotateA op s = { s with
    a := (Forms.shiftSpec op s.a s.flagC).1
    f := packFlags false false false (Forms.shiftSpec op s.a s.flagC).2 } := by
  rw [opRotateA_eq, shifted_eq_shiftSpec]

theorem opShiftReg_eq_shiftSpec (r : Reg8) : opShiftReg op r s = { s with
    f := packFlags (decide ((Forms.shiftSpec op (s.reg8 r) s.flagC).1 = 0)) false false
      (Forms.shiftSpec op (s.reg8 r) s.flagC).2 }.setReg8 r (Forms.shiftSpec op (s.reg8 r) s.flagC).1 := by
  rw [opShiftReg_eq, shifted_eq_shiftSpec, beq_eq_decide]

theorem opShiftInd_eq_shiftSpec : opShiftInd op s =
    { (s.withRead s.hl).withWrite s.hl (Forms.shiftSpec op (s.readByte s.hl) s.flagC).1 with
      f := packFlags (decide ((Forms.shiftSpec op (s.readByte s.hl) s.flagC).1 = 0)) false false
        (Forms.shiftSpec op (s.readByte s.hl) s.flagC).2 } := by
  rw [opShiftInd_eq, shifted_eq_shiftSpec, beq_eq_decide]

/-! ## The mask of one bit -/

theorem bitMask_getLsbD (n : Nat) {k : Nat} (hk : k < 8) : (bitMask n).getLsbD k = (k == n) := by
  have hm : (bitMask n).getLsbD k = (decide (n < 8) && decide (n = k)) := BitVec.getLsbD_twoPow n k
  rw [hm, ← Bool.decide_and, beq_eq_decide, decide_eq_decide]
  omega

/-- `v & ~(1 << n)` clears bit `n` and no other (R328). -/
theorem and_not_bitMask_getLsbD (v : Byte) (n : Nat) :
    ∀ k < 8, (v &&& ~~~(bitMask n)).getLsbD k = (v.getLsbD k && k != n) := fun k hk => by
  rw [BitVec.getLsbD_and, BitVec.getLsbD_not, bitMask_getLsbD n hk, decide_eq_true hk, Bool.true_and, bne]

/-- `v | (1 << n)` sets bit `n` and no other (R330). -/
theorem or_bitMask_getLsbD (v : Byte) (n : Nat) :
    ∀ k < 8, (v ||| bitMask n).getLsbD k = (v.getLsbD k || k == n) := fun k hk => by
  rw [BitVec.getLsbD_or, bitMask_getLsbD n hk]

end Sys2Proof.Machine
end

section
/-! SUPPORT. The statements of the family `47_rotate_shift_bit.md`. -/

namespace Sys2Proof.Machine

/-- Settles O55: the four rows have their bytes and costs, and each result is the one in the braces of its rule. -/
theorem shortRotates : Obligations.ShortRotates := by
  intro s i op h r
  fin_cases h <;> exact encodedBy_cycles_exec rfl rfl rfl rfl (opRotateA_eq_shiftSpec s _)

/-- Settles O56: the flags come from the result in the braces, and then the register is written. -/
theorem shiftRegister : Obligations.ShiftRegister := by
  intro s i op reg h r
  fin_cases h <;> exact encodedBy_cycles_exec rfl rfl rfl rfl (opShiftReg_eq_shiftSpec s _ _)

/-- Settles O57: the operand is the byte read at `HL`, and the result in the braces is written back there. -/
theorem shiftAtHl : Obligations.ShiftAtHl := by
  intro s i op h r
  fin_cases h <;> exact encodedBy_cycles_exec rfl rfl rfl rfl (opShiftInd_eq_shiftSpec s _)

/-- Settles O58: both forms are one update of `F`, at `HL` after the read. -/
theorem bitTest : Obligations.BitTest := by
  refine fun s i n => ⟨fun r h => ?_, fun h => ?_⟩
  · fin_cases h <;> exact ⟨by decide, encodedBy_cycles_exec rfl rfl rfl rfl (opBitReg_eq s _ _)⟩
  · fin_cases h <;> exact ⟨by decide, encodedBy_cycles_exec rfl rfl rfl rfl (opBitInd_eq s _)⟩

/-- Settles O59: the byte written is the old one under the complement of the mask of bit `n`. -/
theorem bitClear : Obligations.BitClear := by
  refine fun s i n => ⟨fun r h => ?_, fun h => ?_⟩
  · fin_cases h <;> exact ⟨by decide, encodedBy_of_wf rfl rfl, rfl, _, and_not_bitMask_getLsbD _ _, rfl⟩
  · fin_cases h <;> exact ⟨by decide, encodedBy_of_wf rfl rfl, rfl, _, and_not_bitMask_getLsbD _ _, rfl⟩

/-- Settles O60: the byte written is the old one with the mask of bit `n` added. -/
theorem bitSet : Obligations.BitSet := by
  refine fun s i n => ⟨fun r h => ?_, fun h => ?_⟩
  · fin_cases h <;> exact ⟨by decide, encodedBy_of_wf rfl rfl, rfl, _, or_bitMask_getLsbD _ _, rfl⟩
  · fin_cases h <;> exact ⟨by decide, encodedBy_of_wf rfl rfl, rfl, _, or_bitMask_getLsbD _ _, rfl⟩

end Sys2Proof.Machine
end

section
/-! SUPPORT. The instruction step as what the fetched instruction does, when it completes and what it charges, and the
source an interrupt dispatch takes. -/

namespace Sys2Proof.Machine

variable {s t u v : State} {i : Instr} {n : Nat}

/-! ## Completion -/

/-- Every arm of `exec` but the eleven illegal bytes answers a next state (R340, R343). -/
theorem exec_completes (s : State) (h : i.isIllegal = false) : ∃ t, exec i s = .next t := by
  cases i
  case illegalD3 | illegalDB | illegalDD | illegalE3 | illegalE4 | illegalEB | illegalEC | illegalED | illegalF4 |
      illegalFC | illegalFD => cases h
  all_goals exact ⟨_, rfl⟩

theorem instructionStep_of_exec (hf : fetch s = (i, u)) (hx : exec i u = .next v) :
    instructionStep s = .next (endStep .executed (promoteIme s.imePending (tick (baseCycles i) v))) := by
  simp only [instructionStep, hf, hx]

theorem exec_of_instructionStep_next (hf : fetch s = (i, u)) (h : instructionStep s = .next t) :
    ∃ v, exec i u = .next v ∧ t = endStep .executed (promoteIme s.imePending (tick (baseCycles i) v)) := by
  simp only [instructionStep, hf] at h
  split at h <;> cases h
  exact ⟨_, ‹_›, rfl⟩

/-- Three bytes are enough for every entry of Table A (R93). -/
theorem exists_decode (op b c : Byte) : ∃ i rest, decode [op, b, c] = .ok (i, rest) := by
  simp only [decode_cons_iff]
  cases Decoder.tableA op with
  | plain i => exact ⟨_, _, .plain i _⟩
  | byteOperand f => exact ⟨_, _, .byteOperand f b _⟩
  | wordOperand f => exact ⟨_, _, .wordOperand f b c _⟩
  | prefixByte => exact ⟨_, _, .prefixByte b _⟩

/-- The outcome of a step from `s` is a next state, or the fault of the illegal byte at `pc`. -/
def State.CompletesOrIllegal (s : State) (r : Result) : Prop :=
  (∃ t, r = .next t) ∨
  ∃ i after, (i, s.readByte s.pc) ∈ Forms.illegal ∧ r = .fault (.illegalOpcode (s.readByte s.pc) false s.pc after)

theorem instructionStep_completesOrIllegal (s : State) : s.CompletesOrIllegal (instructionStep s) := by
  obtain ⟨i, rest, hd⟩ := exists_decode (s.readByte s.pc) (s.readByte (s.pc + 1)) (s.readByte (s.pc + 2))
  cases hi : i.isIllegal with
  | true =>
    obtain ⟨p, hp⟩ := (isIllegal_iff_of_decode hd).mp hi
    exact .inr ⟨p, _, hp, instructionStep_illegal hp⟩
  | false =>
    obtain ⟨t, ht⟩ := exec_completes (s.fetched (encode i).length) hi
    exact .inl ⟨_, instructionStep_of_exec (fetch_of_decode_at_pc hd) ht⟩

theorem interruptCheck_completesOrIllegal (ie ifl : Byte) (s : State) :
    s.CompletesOrIllegal (interruptCheck ie ifl s) := by
  unfold interruptCheck
  split
  · exact .inl ⟨_, rfl⟩
  · exact instructionStep_completesOrIllegal s

/-- The samples and the release from `Halted` leave `pc` and memory as they are. -/
theorem sampledStep_completesOrIllegal (s : State) : s.CompletesOrIllegal (sampledStep s) := by
  unfold sampledStep
  dsimp only
  split
  · split
    · exact interruptCheck_completesOrIllegal _ _ { s.sampled with mode := .running }
    · exact .inl ⟨_, rfl⟩
  · exact interruptCheck_completesOrIllegal _ _ s.sampled

/-! ## The charge -/

theorem Effect.counters {fs : Forms.Facts} {stored : List Word} (h : Effect s t fs stored n) :
    t.mCycles = s.mCycles + n ∧ t.tStates = s.tStates + 4 * n := by
  rw [h.frame]
  exact ⟨rfl, rfl⟩

/-- What `exec` adds to the counters is the surcharge: the prefix byte alone charges the base cost of the instruction it
stands for (R296, R393). -/
theorem exec_counters (hp : i.isPrefixByte = false) (h : exec i s = .next t) :
    t.mCycles = s.mCycles + Forms.surcharge i s ∧ t.tStates = s.tStates + 4 * Forms.surcharge i s := by
  cases exec_executed h with
  | di | ei | reti | halt | stop => exact ⟨rfl, rfl⟩
  | prefixCb => cases hp
  | plain _ he => exact he.counters

@[simp] theorem fetched_mCycles (n : Nat) : (s.fetched n).mCycles = s.mCycles := by rw [fetched_frame]
@[simp] theorem fetched_tStates (n : Nat) : (s.fetched n).tStates = s.tStates := by rw [fetched_frame]

/-- A condition reads the same flags before and after the fetch. -/
theorem surcharge_fetched (i : Instr) (s : State) (n : Nat) :
    Forms.surcharge i (s.fetched n) = Forms.surcharge i s := by
  rw [fetched_frame]
  rfl

/-- The instruction step charges the base cost and the surcharge, four t-states to an m-cycle; the fetch and the EI
promotion charge nothing (R126, R128). -/
theorem instructionStep_counters (hf : fetch s = (i, s.fetched n)) (hp : i.isPrefixByte = false)
    (h : instructionStep s = .next t) :
    t.mCycles = s.mCycles + (baseCycles i + Forms.surcharge i s) ∧
    t.tStates = s.tStates + 4 * (baseCycles i + Forms.surcharge i s) := by
  obtain ⟨v, hv, rfl⟩ := exec_of_instructionStep_next hf h
  obtain ⟨hm, ht⟩ := exec_counters hp hv
  rw [surcharge_fetched] at hm ht
  rw [promoteIme_frame]
  simp only [endStep_mCycles, endStep_tStates, tick_mCycles, tick_tStates, hm, ht, fetched_mCycles, fetched_tStates]
  omega

/-! ## The source of a dispatch -/

/-- The lowest set bit of a pending set is the one `lowestPending` finds (R348). -/
theorem lowestPending_eq {pend : Byte} (hn : n < 5) (hbit : pend.getLsbD n = true)
    (hlow : ∀ k < n, pend.getLsbD k = false) : lowestPending pend = n := by
  unfold lowestPending
  interval_cases n <;> simp [-BitVec.getLsbD_eq_getElem, hbit, hlow]

/-- The vector of R351 with its sum made in the naturals. -/
theorem interruptVector_eq_ofNat (n : Nat) : interruptVector n = BitVec.ofNat 16 (0x0040 + 8 * n) := by
  rw [BitVec.ofNat_add, BitVec.ofNat_mul]
  rfl

theorem coreStep_of_readyToDispatch (w : Bool) (h : s.ReadyToDispatch) :
    coreStep w s = .next (endStep (.dispatched (lowestPending s.pending))
      (dispatchInterrupt (lowestPending s.pending) (s.readByte ifAddr) s.sampled)) := by
  obtain ⟨hl, hm, hime, hp⟩ := h
  rw [coreStep_of_mode_ne_stopped hl (by simp [hm]), sampledStep_of_running hm]
  exact if_pos (show (s.ime && s.pending != 0) = true by simpa [hime] using hp)

end Sys2Proof.Machine
end

section
/-! SUPPORT. The statements of the families `60_exceptions.md` and `70_reset_and_hazards.md`. -/

namespace Sys2Proof.Machine

/-- Settles O6: each field is read off the reset record. -/
theorem resetState : Obligations.ResetState :=
  ⟨rfl, rfl, rfl, rfl, rfl, rfl, rfl, rfl, rfl, rfl, rfl, rfl, rfl, rfl, rfl, rfl⟩

/-- Settles O20: what the other agents write before a step leaves the latch set, and the latch is looked at first. -/
theorem lockedCoreHasNoStep : Obligations.LockedCoreHasNoStep := by
  intro s hl
  rw [step_eq, beginStep_frame]
  exact if_pos hl

/-- Settles O23, by the arm of each constructor. -/
theorem everyInstructionCompletes : Obligations.EveryInstructionCompletes := fun _ => exec_completes

/-- Settles O21: every path through the step idles, dispatches, or reaches the instruction at `pc`. -/
theorem onlyIllegalBytesFault : Obligations.OnlyIllegalBytesFault := by
  intro w s hl
  by_cases hm : s.mode = .stopped
  · rw [coreStep_of_stopped hl hm]
    cases w
    · exact .inl ⟨_, rfl⟩
    · exact sampledStep_completesOrIllegal { s with mode := .running, stopWakeReads := s.stopWakeReads + 1 }
  · rw [coreStep_of_mode_ne_stopped hl hm]
    exact sampledStep_completesOrIllegal s

/-- Settles O18: the source is the lowest pending bit, and the dispatch is one update of the sampled state. -/
theorem interruptDispatch : Obligations.InterruptDispatch := by
  intro w s n hr hn hbit hlow
  rw [coreStep_of_readyToDispatch w hr, lowestPending_eq hn hbit hlow, dispatchInterrupt_eq, interruptVector_eq_ofNat]
  rfl

/-- Settles O28: what is decoded is never the prefix byte alone, and the samples charge nothing. -/
theorem takenSurcharge : Obligations.TakenSurcharge := by
  refine ⟨fun _ _ _ => exec_counters, fun w s t i rest hr hd h => ?_⟩
  obtain ⟨-, hp⟩ := encodeAfterDecode _ _ _ hd
  rw [coreStep_of_readyToExecute hr] at h
  exact instructionStep_counters (s := s.sampled) (fetch_of_decode_at_pc hd) hp h

end Sys2Proof.Machine
end
